-- ==== Sys2Proof/Word.lean ====
section
/-! DEFINITION. The word types and their plainest arithmetic. -/

namespace Sys2Proof

/-- One byte. -/
abbrev Byte := BitVec 8

/-- A 32-bit register (R5). -/
abbrev Word := BitVec 32

/-- A 64-bit word: a descriptor word QWn (R51), a mailbox payload word (R336). -/
abbrev QWord := BitVec 64

/-- A flag as a number, 1 or 0. -/
def flag (b : Bool) : Nat := if b then 1 else 0

/-- The value `v` placed with its lowest bit at bit `lo` of a 32-bit register. -/
def fieldAt (v lo : Nat) : Word := BitVec.ofNat 32 (v <<< lo)

/-- A flag placed at bit `lo` of a 32-bit register. -/
def flagAt (b : Bool) (lo : Nat) : Word := fieldAt (flag b) lo

/-- The field `[hi:lo]` of a number. -/
def bitsOf (x hi lo : Nat) : Nat := (x >>> lo) % 2 ^ (hi + 1 - lo)

/-- Counters that saturate at all ones (R29, R42, R72 and others). -/
def satSucc {w : Nat} (x : BitVec w) : BitVec w := if x = BitVec.allOnes w then x else x + 1

/-- `satSucc` taken `n` times. -/
def satAdd {w : Nat} (x : BitVec w) (n : Nat) : BitVec w :=
  if 2 ^ w - 1 ≤ x.toNat + n then BitVec.allOnes w else BitVec.ofNat w (x.toNat + n)

/-- Rounding up division. -/
def ceilDiv (a b : Nat) : Nat := (a + b - 1) / b

end Sys2Proof
end

