-- ==== Sys2Proof/Syntax.lean ====
section
/-! DEFINITION. The commands of the block: one constructor of `Instr` per row of spec/opcode_table.json, with
the data that comes from outside the block as operands (assumptions 7, 8, 13, 15). -/

namespace Sys2Proof

/-- UNIT_CLASS (R73), in the codes 1 to 4 of R96. -/
inductive UnitClass where
  | pip | med | cip | dig
deriving DecidableEq, Repr

/-- The statuses of R66, and no others. -/
inductive Status where
  | ok | okFalse | okEnvExtended | invalidScrubbed
  | badOpcode | badLength | badRange | badPoint | badFormat | badDescriptor
  | keyAbsent | keyUsage | keyTenant
  | stateRefused | entropyUnavailable | versionMismatch
  | refusedQuota | refusedOverload | expired
  | cancelled | aborted
  | deviceFault | regionLost
deriving DecidableEq, Repr

/-- The status codes of R66. -/
def Status.code : Status → Nat
  | .ok => 0x00 | .okFalse => 0x01 | .okEnvExtended => 0x02 | .invalidScrubbed => 0x03
  | .badOpcode => 0x10 | .badLength => 0x11 | .badRange => 0x12 | .badPoint => 0x13 | .badFormat => 0x14
  | .badDescriptor => 0x15
  | .keyAbsent => 0x20 | .keyUsage => 0x21 | .keyTenant => 0x22
  | .stateRefused => 0x30 | .entropyUnavailable => 0x31 | .versionMismatch => 0x32
  | .refusedQuota => 0x40 | .refusedOverload => 0x41 | .expired => 0x42
  | .cancelled => 0x50 | .aborted => 0x51
  | .deviceFault => 0x60 | .regionLost => 0x61

/-- The reasons of R68. `lc` carries the life-cycle code less 1 (LC_MAKER is 0), `region` the region. -/
inductive Reason where
  | none
  | short | long | outShort | field
  | reservedSet | badKind | badFragList | hostReadFail | badGraph | badSource | badHandle | badSteps
  | ceiling | backlog | deviceBacklog | staging | deadlinePassed | deadlineUnreachable
  | lc (state : Fin 4)
  | tenantSuspended | tenantNotCreated | qpBusy | mpRestarting
  | central | zest | hostCancel | admin
  | tamper | engineFault | invariant
  | region (r : Fin 4)
deriving DecidableEq, Repr

/-- The reason codes of R68; 0x00 when none applies. -/
def Reason.code : Reason → Nat
  | .none => 0x00
  | .short => 0x01 | .long => 0x02 | .outShort => 0x03 | .field => 0x04
  | .reservedSet => 0x10 | .badKind => 0x11 | .badFragList => 0x12 | .hostReadFail => 0x13
  | .badGraph => 0x14 | .badSource => 0x15 | .badHandle => 0x16 | .badSteps => 0x17
  | .ceiling => 0x20 | .backlog => 0x21 | .deviceBacklog => 0x22 | .staging => 0x23
  | .deadlinePassed => 0x24 | .deadlineUnreachable => 0x25
  | .lc n => 0x30 + n.val
  | .tenantSuspended => 0x38 | .tenantNotCreated => 0x39 | .qpBusy => 0x3B | .mpRestarting => 0x3F
  | .central => 0x40 | .zest => 0x41
  | .hostCancel => 0x50 | .admin => 0x51
  | .tamper => 0x60 | .engineFault => 0x61 | .invariant => 0x62
  | .region r => 0x68 + r.val

/-- What an engine's or lane's arithmetic yields at the end of a job: firmware-defined under R14, so data
from outside the model (assumption 8). `outLen` is the actual length of a variable output (R232 OAEP, R274
check value); `keyAttr` and `keyLen` are those of the key that a key block carries (R274). Of a Pulp lookup, `pulpTag` is the tag of an
inline key, `pulpSame` says that the stored public key equals it (R208), and `pulpAuthOk` that an HBM entry passes its
authentication (R207). -/
structure JobResult where
  status : Status := .ok
  reason : Reason := .none
  pulpTag : BitVec 128 := 0
  pulpSame : Bool := true
  pulpAuthOk : Bool := true
  outLen : Nat := 0
  keyAttr : QWord := 0
  keyLen : Nat := 0
deriving DecidableEq, Repr

/-- One 16-byte entry of a fragment list, its fields cut out (R53). -/
structure FragEntry where
  addr : QWord
  len : Word
  typ : Byte
  resv : BitVec 24 := 0
deriving DecidableEq, Repr

/-- Which DMA read an error completion or a completion timeout belongs to (R37, R50, R336). -/
inductive DmaRead where
  | descriptor (fn : Fin 1024) (q : Nat)
  | fragList (fn : Fin 1024) (q : Nat)
  | data (seq step : Nat)
  | mailbox (fn : Fin 1024) (cmd : Nat)
deriving DecidableEq, Repr

/-- A mailbox request as the header of R335 and the payload words of R336 give it. `resv` says that a
reserved header byte or a reserved payload bit is not 0 (check 2 of R337). -/
structure MbReq where
  fn : Fin 1024
  format : Nat := 1
  resv : Bool := false
  len : Nat
  token : Word := 0
  words : List QWord
deriving DecidableEq, Repr

/-- A token of R357. `pkHash` is the SHA-384 of PK_A and PK_B, `sigsOk` that both signatures verify. -/
structure Token where
  len : Nat
  format : Nat
  action : Nat
  frm : Nat
  toLc : Nat
  signer : Nat
  resvZero : Bool
  deviceId : BitVec 128
  nonce : BitVec 128
  newIkh : BitVec 384
  pkHash : BitVec 384
  sigsOk : Bool
deriving DecidableEq, Repr

/-- A firmware image as FW_STAGE reads it (R342, R343). `sigsOk`, `digestsOk` and `tableOk` are the results
of checks 5, 6 and 7. -/
structure FwImage where
  len : Nat
  format : Nat
  deviceRev : Nat
  stateMask : Nat
  svn : Nat
  major : Nat
  minor : Nat
  patch : Nat
  familyMask : BitVec 16
  bundleVersion : BitVec 16
  fwLen : Nat
  ucodeLen : Nat
  tableLen : Nat
  sigsOk : Bool
  digestsOk : Bool
  tableOk : Bool
deriving DecidableEq, Repr

/-- A key-update message (R298), with the results of the checks that need arithmetic; `sigTicks` are the µs of engine time that
the two verifications take. -/
structure UpdateMsg where
  readOk : Bool := true
  format : Nat := 1
  action : Nat
  tenant : Nat
  slot : Nat
  payloadLen : Nat
  lengthsOk : Bool := true
  counter : QWord
  deviceId : BitVec 128
  importId : BitVec 128
  sigAOk : Bool := true
  sigBOk : Bool := true
  sigTicks : Nat := 2
  hash : BitVec 128
  decryptOk : Bool := true
  attr : QWord := 0
  useLimit : Nat := 0
  keyLen : Nat := 0
  keyValid : Bool := true
  commitOk : Bool := true
deriving DecidableEq, Repr

/-- How the read of a request's bytes went, and whether the commit that follows succeeds (R296, R305). -/
structure ReadCommit where
  readOk : Bool := true
  commitOk : Bool := true
deriving DecidableEq, Repr

/-- A background rebuild: the entry's place in the shared pool, the region of the idle engine, and the ticks it takes (R213). -/
structure RebuildIn where
  slot : Nat
  region : Fin 4
  ticks : Nat
deriving DecidableEq, Repr

/-- What a fault event says beside its source and unit: whether its condition stays present, and the key that it broke, if one. -/
structure FaultMark where
  present : Bool
  hit : Option QWord := none
deriving DecidableEq, Repr

/-- A host-held blob as read (R297). -/
structure BlobIn where
  readOk : Bool := true
  format : Nat := 1
  tenant : Nat
  kekSlot : Nat
  keyLen : Nat
  attr : QWord
  tagOk : Bool := true
deriving DecidableEq, Repr

/-- One slot in a resync (R452 type 0x05) or a commit (type 0x01). -/
structure SlotRec where
  tenant : Nat
  slot : Nat
  action : Nat := 1
  counter : QWord
  hash : BitVec 128
  occupied : Bool := true
  attr : QWord := 0
  useLimit : Nat := 0
  keyLen : Nat := 0
deriving DecidableEq, Repr

/-- The header of a Pritan frame (R451). `tagOk` says that the GCM tag verifies under GK. -/
structure Frame where
  format : Nat := 1
  typ : Nat
  sender : Fin 64
  receiver : Fin 64
  fragIdx : Nat := 0
  fragCnt : Nat := 1
  len : Nat := 0
  groupId : QWord
  fseq : QWord
  mseq : QWord := 0
  tagOk : Bool := true
  mark : QWord
deriving DecidableEq, Repr

/-- What a boot meets outside the logic (R435 and the steps inside PERST_N_RELEASE): assumption 13. -/
structure BootIn where
  /-- BOOT_SEL as sampled at PERST_N release (R344, R467). -/
  bootSel : Bool := false
  /-- RATE and WIDTH the link trains to, and FLIT (R42); RATE 0 is no link. -/
  rate : BitVec 4 := 4
  width : BitVec 5 := 16
  flit : Bool := true
  /-- Failed start-up runs of each noise source before one passes; 8 or more marks it DEAD (R317). -/
  rngRuns : List Nat := []
  /-- The conditioner's and the DRBG's known-answer tests (R315) pass. -/
  rngKatOk : Bool := true
  /-- Pseudo-channels that fail training or the pattern pass (R201). -/
  pcFail : QWord := 0
  /-- Units that fail their known-answer tests (R150, R116). -/
  katFail : List (UnitClass × Nat) := []
  /-- The vault header's check value verifies under the present VEK (R289). -/
  headerOk : Bool := true
  /-- The power failure before this boot cut a commit record's row program short (R303). -/
  torn : Bool := false
  /-- Main power is lost in a transition of this boot: in the intent burn, in the wipe or in the state burn (R370). -/
  lcCut : Option (Fin 3) := none
  /-- The manifests of banks A and B pass signatures and digests (R344). -/
  bankAOk : Bool := true
  bankBOk : Bool := true
  /-- Orchard accepts the dispatch table (R14, R346). -/
  tableOk : Bool := true
  /-- The five junction sensors at PERST_N release (R436, R437); an empty list leaves them as they stood. -/
  temps : List Byte := []
  /-- The new LC_NONCE drawn at step 5 of R360. -/
  nonce : BitVec 128 := 1
deriving DecidableEq, Repr

/-- The supplies and clocks of R431 whose PLLs can lose lock (R440). -/
inductive Pll where
  | root | hbm0 | hbm1
deriving DecidableEq, Repr

/-- How a link goes down (R39). -/
inductive LinkLoss where
  | dlDown | surprise | hotReset
deriving DecidableEq, Repr

/-- What starts a power exit (R427). -/
inductive WakeCause where
  | doorbell | mailboxEngines | tolerance | regionOp | action
deriving DecidableEq, Repr

/-- Which microword fault an uncorrected engine fault is (R142 to R145, R247). -/
inductive UnitFault where
  | decode | ecc | sequencer | laneMismatch
deriving DecidableEq, Repr

/-- The transport an SPDM request arrives on (R40, R444). -/
inductive Transport where
  | doe | mctp
deriving DecidableEq, Repr

/-- What SPDM_NEGOTIATE_ALGORITHMS offers over a transport: ECDSA P-384, SHA-384, secp384r1 and AES-256-GCM (R40). -/
structure AlgOffer where
  t : Transport
  asym : Bool
  hash : Bool
  dhe : Bool
  aead : Bool
deriving DecidableEq, Repr

/-- IDE_KM operations of R40 and R20. -/
inductive IdeKm where
  | keyProg | setGo | setStop
deriving DecidableEq, Repr

/-- The areas of the 64 MiB of SRAM (R198), the Medlar and the Currant area in their two parts. -/
inductive SramArea where
  | pipOperand | pipStore | pulpTier | medOperand | medStore | queueOrchard | laneContext | laneStaging | management | vault
deriving DecidableEq, Repr

/-- What an access of the debug port or of a memory test names (R363, R365, R366): a register of a management-processor core, a
64-bit word of an SRAM area or of MRAM, an HBM test wrapper, one of the places that R366 protects, or one of the key registers,
windows and keys of R365. -/
inductive PortPlace where
  | core (n : Nat)
  | sram (area : SramArea) (word : Nat)
  | mram (word : Nat)
  | wrapper (pc : Fin 64)
  | protected_ (word : Nat)
  | keys (word : Nat)
deriving DecidableEq, Repr

/-- The commands of the block. -/
inductive Instr where
  -- power and reset
  | vaonPowerOn
  | vaonLoss
  | mainRailsGood
  | perstNAssert
  | perstNRelease (b : BootIn)
  | brownOut
  | brownOutRecover (b : BootIn)
  -- link and configuration space
  | linkDown (how : LinkLoss)
  | linkRetrain (rate : BitVec 4) (width : BitVec 5) (flit : Bool)
  | memorySpaceEnableWrite (fn : Fin 1024) (v : Bool)
  | busMasterEnableWrite (fn : Fin 1024) (v : Bool)
  | vfEnableSet
  | vfEnableClear
  | numvfsWrite (n : BitVec 16)
  | flrInitiate (fn : Fin 1024)
  | flrDone (fn : Fin 1024)
  | ideIntegrityFail (stream : Fin 9) (fns : List (Fin 1024))
  | tlpWithoutIde (fn : Fin 1024) (write : Bool)
  -- register accesses
  | registerWrite (fn : Fin 1024) (bar off size : Nat) (v : QWord)
  | fnControlWrite (fn : Fin 1024) (v : Word)
  | fnLatTolWrite (fn : Fin 1024) (v : Word)
  | msixUnmask (fn : Fin 1024) (vec : Nat)
  | dmaReadFail (rd : DmaRead)
  | completionTimeout (rd : DmaRead)
  | hifLpbkOff (lane : BitVec 4)
  | hifLpbkNearSerial (lane : BitVec 4) (errors : Nat)
  | hifLpbkNearParallel (lane : BitVec 4) (errors : Nat)
  | hifLpbkLtssm (lane : BitVec 4) (fromPartner : Bool)
  | hifLpbkTransaction (lane : BitVec 4)
  | lpbkTlpReturn (data : List Byte)
  -- SPDM and IDE_KM
  | spdmGetVersion (t : Transport)
  | spdmGetCapabilities (t : Transport)
  | spdmNegotiateAlgorithms (o : AlgOffer)
  | spdmGetDigests (t : Transport)
  | spdmGetCertificate (t : Transport) (slot : Nat)
  | spdmChallenge (t : Transport) (slot : Nat)
  | spdmGetMeasurements (t : Transport) (index : Nat)
  | spdmKeyExchange (t : Transport)
  | spdmFinish (t : Transport) (macOk : Bool)
  | spdmKeyUpdate (t : Transport)
  | spdmHeartbeat (t : Transport)
  | spdmEndSession (t : Transport)
  | ideKmMessage (op : IdeKm) (stream : Fin 9) (fns : List (Fin 1024))
  -- doorbells
  | sqDb (fn : Fin 1024) (q : Nat) (size : Nat) (v : QWord)
  | cqDb (fn : Fin 1024) (q : Nat) (size : Nat) (v : Word)
  | cancel (fn : Fin 1024) (q : Nat) (size : Nat) (v : Word)
  -- the item path
  | fetchIssue (fn : Fin 1024) (q : Nat) (bytes : List Byte)
  | itemAccept (fn : Fin 1024) (q : Nat)
  | fragmentListRead (fn : Fin 1024) (q step : Nat) (output : Bool) (bytes : List Byte)
  | itemPlace (seq step : Nat)
  | waitwork (cls : UnitClass) (unit : Nat)
  | dispatch (cls : UnitClass) (region : Fin 4)
  | stageEnd (cls : UnitClass) (unit : Nat) (res : JobResult)
  | fail (cls : UnitClass) (unit : Nat)
  | publicEnd (cls : UnitClass) (unit : Nat) (res : JobResult)
  | scrubEnd (cls : UnitClass) (unit : Nat)
  | gfCreditRecovered (unit : Nat)
  | hostReadAllowanceExpire (cls : UnitClass) (unit : Nat)
  | safePointStop (cls : UnitClass) (unit : Nat)
  | safePointTimeout (cls : UnitClass) (unit : Nat)
  | uncorrectedFault (cls : UnitClass) (unit : Nat) (kind : UnitFault) (detail : BitVec 16)
  | dueTick (unsealFail : List Nat)
  | coalesceTimer (fn : Fin 1024) (q : Nat)
  | deadlineExpire
  | entropyWaitTimeout
  | flowAdvance (fn : Fin 1024) (flow : Word)
  -- regions and control stores
  | regionLost (region : Fin 4)
  | regionDrainEnd (region : Fin 4)
  | drainLimitExpire (region : Fin 4)
  | regionReloadDone (region : Fin 4) (digestOk : Bool) (katFail : List (UnitClass × Nat))
  | controlStorePatrol (store : Fin 20) (upsets : List (Nat × BitVec 288))
  | zestReseed (medlar : Bool) (gen : Fin 16)
  | zestLimit (medlar : Bool) (gen : Fin 16)
  -- lanes
  | fragmentServiceEnd (cls : UnitClass) (unit : Nat) (res : JobResult)
  | fragmentDue (unsealFail : List Nat)
  | portWriteTick (group : Fin 8)
  | laneReadAllowanceExpire (cls : UnitClass) (unit : Nat)
  -- mailbox
  | mailboxGoRefused (fn : Fin 1024) (cmd : BitVec 16) (token : Word)
  | getStatus (r : MbReq)
  | getVersion (r : MbReq)
  | qpCreate (r : MbReq)
  | qpDelete (r : MbReq)
  | qpInterrupt (r : MbReq)
  | pulpFlush (r : MbReq)
  | tenantCreate (r : MbReq)
  | tenantSuspend (r : MbReq)
  | tenantResume (r : MbReq)
  | tenantDelete (r : MbReq)
  | tenantSetShare (r : MbReq)
  | tenantSetAllot (r : MbReq)
  | tenantGet (r : MbReq)
  | pulpSize (r : MbReq)
  | pulpPublish (r : MbReq)
  | pulpWithdraw (r : MbReq)
  | sharedPoolRebuild (w : RebuildIn)
  | keyUpdate (r : MbReq) (m : UpdateMsg)
  | keyImportPublic (r : MbReq) (keyOk : Bool) (io : ReadCommit)
  | keyInfo (r : MbReq)
  | keyExport (r : MbReq)
  | keystoreLoad (r : MbReq) (b : BlobIn)
  | keyStatement (r : MbReq)
  | certRead (r : MbReq)
  | authoritySet (r : MbReq) (keyOk : Bool) (io : ReadCommit)
  | zeroise (r : MbReq) (b : BootIn)
  | legacySet (r : MbReq)
  | rngPerso (r : MbReq)
  | idePolicy (r : MbReq)
  | faultPolicySetSource (r : MbReq)
  | faultPolicyGrace (r : MbReq)
  | faultPolicyQuiet (r : MbReq)
  | faultPolicyRecoveryLimit (r : MbReq)
  | faultPolicyClearStuck (r : MbReq)
  | rindPolicySetGroup (r : MbReq)
  | rindPolicyBurnFuse (r : MbReq)
  | rindPolicyTempLimits (r : MbReq)
  | rindPolicyTampPolarity (r : MbReq)
  | powerPolicyDeepest (r : MbReq)
  | powerPolicyIdleTimes (r : MbReq)
  | powerPolicySpread (r : MbReq)
  | lcTransition (r : MbReq) (tok : Token) (readOk : Bool)
  | lcReset (b : BootIn)
  | recovery (r : MbReq) (tok : Option Token) (readOk : Bool)
  | fwStage (r : MbReq) (img : FwImage) (readOk : Bool)
  | fwActivate (r : MbReq)
  | fwConfirm (r : MbReq)
  | fwRestart (r : MbReq)
  | watchdogExpire
  | lockstepMismatch (pair : Fin 2)
  | firmwareStart (bankAOk bankBOk tableOk : Bool)
  | regionReload (r : MbReq)
  | regionReset (r : MbReq)
  | unitService (r : MbReq)
  | warmReset (r : MbReq) (b : BootIn)
  | groupCreate (r : MbReq)
  | groupJoinRequest (r : MbReq)
  | groupAdmit (r : MbReq) (readOk formatOk sigsOk : Bool) (state : Nat) (ikh : BitVec 384) (deviceId : BitVec 128)
  | groupAccept (r : MbReq) (readOk formatOk sigsOk : Bool) (state : Nat) (ikh : BitVec 384) (groupId : QWord)
      (index admitter : Fin 64) (quorum mirrorTo : Nat) (deviceId : BitVec 128)
  | groupPeer (r : MbReq)
  | groupMirrorTenant (r : MbReq)
  | groupRemove (r : MbReq)
  | groupRejoin (r : MbReq)
  | groupRelayRing (r : MbReq)
  | groupSidebandId (r : MbReq)
  | logRead (r : MbReq)
  -- entropy
  | healthTestFail (src : Fin 3) (test : Fin 3)
  | sourceStartupPass (src : Fin 3)
  | conditionedBlockReady
  | drbgReseedInterval
  | drbgRequestLimit
  | drbgRecovery
  | rngCtrlReseed (v : Word)
  | rngDataRead (fn : Fin 1024) (off size : Nat)
  | rngBufferRefill (fn : Fin 1024)
  | rngRawCtrlWrite (v : Word)
  -- HBM
  | hbmPatrol (corrected uncorrected : List (Fin 64))
  | hbmLpbkOff (pc : BitVec 6) (b : BootIn)
  | hbmLpbkPhy (pc : BitVec 6) (errors : Nat)
  | hbmLpbkFarEnd (pc : BitVec 6) (errors : Nat)
  | hbmLpbkMarch (pc : BitVec 6) (errors : Nat)
  -- Rind
  | rindSensorEvent (group : Fin 30) (cell : Fin 8) (b : BootIn)
  | rindStimulusCell (group : Fin 30) (cell : Fin 8) (fired : Bool) (b : BootIn)
  | runAll (silent : List (Fin 30)) (b : BootIn)
  | rndAlarmWrite (v : Word)
  | xtalStable
  | xtalStop
  -- faults
  | faultEvent (src : Fin 256) (unit : BitVec 8) (detail : BitVec 16) (m : FaultMark) (b : BootIn)
  | graceExpire (src : Fin 256) (b : BootIn)
  | fltAck (v : Word)
  | quietExpire (src : Fin 256)
  | fltFirstSrcClear (v : Word)
  -- recorder
  | opSecStore
  -- power
  | powerStateEnter
  | powerWake (cause : WakeCause)
  | p4Wake (us : Nat) (b : BootIn)
  | powerExitDone
  | throttleRise (region : Fin 4) (own spine : Byte)
  | throttleFall (region : Fin 4) (own spine : Byte)
  | thermalShutdown (sensor : Fin 5) (temp : Byte)
  | avsSample (up : Bool) (want : Bool)
  | pllLockLoss (pll : Pll)
  -- group frames
  | commitFrame (f : Frame) (c : SlotRec)
  | ackFrame (f : Frame) (result : Fin 4)
  | heartbeatFrame (f : Frame)
  | resyncReqFrame (f : Frame)
  | resyncDataFrame (f : Frame) (slots : List SlotRec) (last : Bool)
  | leaveFrame (f : Frame)
  | frameSend (peer : Fin 64)
  | heartbeatTimer
  | memberSilent (peer : Fin 64)
  | mirrorTimeout (fn : Fin 1024)
  -- I3C and MCTP
  | entdaa (da : BitVec 7)
  | rstdaa
  | enec (bits : BitVec 8)
  | disec (bits : BitVec 8)
  | getpid
  | getbcr
  | getdcr
  | getmwl
  | getmrl
  | setmwl (n : BitVec 16)
  | setmrl (n : BitVec 16)
  | getstatus
  | rstact
  | cccUnsupported (code : Byte)
  | hotJoin
  | setEndpointId (eid : Byte)
  | getEndpointId
  | getMctpVersionSupport
  | getMessageTypeSupport
  | getEndpointUuid
  | mctpVendorMailbox (cmd : BitVec 16) (r : MbReq)
  | sbLpbkOff
  | sbLpbkPad (errors : Nat)
  | sbLpbkProtocol (errors : Nat)
  -- JTAG
  | extest
  | extestPulse
  | extestTrain
  | idcode
  | samplePreload (v : List Bool)
  | bypass (code : Byte)
  | lcToken (tok : Token) (whole : Bool)
  | lcNonceRd
  | debugPort (code : Byte) (place : PortPlace) (wr : Bool) (data : QWord)
  | memoryTest (code : Byte) (place : PortPlace) (wr : Bool) (data : QWord)
  | tapReset
  -- the rest
  | orcTraceCtrlWrite (v : Word)
  | tickBoundary
  | registerRead (fn : Fin 1024) (bar off size : Nat)
  | mailboxUnknownCommand (r : MbReq) (cmd : BitVec 16)
  | mctpTypeDropped (typ : Byte)
  | doeDiscovery (index : Nat)
  | mainRailsOff
  | standbySupplyLoss
  | standbySupplyReturn
  | rindConditionEnd (group : Fin 30)
deriving DecidableEq, Repr

end Sys2Proof
end

