-- ==== Sys2Proof/Decode.lean ====
section
/-! DEFINITION. The command a word of the opcode table spells. No row of spec/opcode_table.json has bits, and a
block has no processor's encoding, so no word spells a command. -/

namespace Sys2Proof

/-- The command that the `nbits` bits `w` spell by the opcode table: none, since no row gives bits. -/
def decodeTableWord (_nbits _w : Nat) : Option Instr := none

end Sys2Proof
end

