-- ==== Sys2Proof/Config.lean ====
section
/-! DEFINITION. What one device fixes and the free values: constants with no body, of which nothing can be
proved (assumption 1). A free value of a running machine is applied to the counter `State.free`. -/

namespace Sys2Proof

/-- The 128-bit device ID in OTP (R306). -/
opaque Config.deviceId : BitVec 128

/-- The Lamgus PCI vendor ID (R21), its MIPI manufacturer ID (R443), the JEDEC code (R469) and the UUID (R444). -/
opaque Config.vendorId : BitVec 16
opaque Config.mipiId : BitVec 15
opaque Config.jedecId : BitVec 11
opaque Config.uuid : BitVec 128

/-- The mandatory data byte of an in-band interrupt, which the MCTP I3C binding gives (R442). -/
opaque Config.ibiByte : Byte

/-- The SHA-384 digest of the boot ROM (R307). -/
opaque Config.romDigest : BitVec 384

/-- A byte whose value the spec leaves open: output bytes (R14), random bytes (R326), raw samples (R329). -/
opaque Config.freeByte : Nat → Byte

/-- A 128-bit value whose value the spec leaves open: keys, identities, hashes. -/
opaque Config.freeKey : Nat → BitVec 128

/-- A 32-bit value whose value the spec leaves open. -/
opaque Config.freeWord : Nat → Word

/-- Byte k of the synthetic IV, the ciphertext and the tag of a blob, by the places of the key-encryption key and the key among the
free values and the first 20 bytes (R297): the same key under the same key-encryption key and attributes gives the same blob. -/
opaque Config.wrapByte : Nat → Nat → List Byte → Nat → Byte

/-- Byte k of the SHA-384 hash of the public key at a place (R308), and of the DevID certificate, the same at every boot (R306). -/
opaque Config.pkHash : Nat → Nat → Byte
opaque Config.devidCert : Nat → Byte

/-- The units of a Pip or a Medlar engine that a microword starts (R123, R221). -/
inductive MicroUnit where
  | vmu | kec | sha | gf | smp | pck | krp | xfer | mul | add | hash | rnd
deriving DecidableEq, Repr

/-- A kind of value that UNMASK releases (R130, R181, R191). -/
inductive Release where
  | signature | hint | ciphertext | w1 | rejection | publicKey | root | codeS | codeUV | codeC0 | systematic
deriving DecidableEq, Repr

/-- A hash of SLH-DSA that takes a secret seed, or another (R181): a call of PRF or PRF_msg, step `k` of a WOTS+ chain, a FORS
secret leaf, any other. -/
inductive SlhHash where
  | prf | chain (k : Nat) | forsLeaf | other
deriving DecidableEq, Repr

/-- What a unit operation of a microcode bundle does, as far as the hardware gives it a form (R125 to R131, R136 to R139). -/
inductive UnitKind where
  | ntt | pointwise | addSub | refresh | boolToArith | arithToBool | boundTest | keccak | sha256 (h : SlhHash) | sha512 (h : SlhHash)
  | sample | rotate | gfMultiply | shuffle | select | attrRead | moveIn | moveOut | keyOut
  | unmaskRows (r : Release) | unmaskFlag (r : Release) (flag : Fin 64)
  | other
deriving DecidableEq, Repr

/-- A unit operation of a microcode bundle (R14, R140): its kind, the rows it writes from its destination address on, and whether
it writes the destination scalar register. -/
structure UnitOp where
  kind : UnitKind := .other
  rows : Nat := 0
  scalar : Bool := false
deriving DecidableEq, Repr, Inhabited

/-- The words of a microcode bundle by family, version and address, the operations of its OP values, and the address at which the
job of an opcode and PARAM begins (R14, R140, R226, R343). -/
opaque Config.pipWord : Nat → BitVec 16 → Nat → BitVec 288
opaque Config.medWord : Nat → BitVec 16 → Nat → BitVec 128
opaque Config.unitOp : Nat → BitVec 16 → MicroUnit → Nat → UnitOp
opaque Config.jobEntry : Nat → BitVec 16 → Nat → Nat → Nat

/-- The entry-format version of the Pulp cache that a microcode bundle writes (R210). -/
opaque Config.pulpFormat : BitVec 16 → BitVec 12

end Sys2Proof
end

