-- ==== Sys2Proof/Machine/Tab.lean ====
section
/-! DEFINITION. A sparse table with one canonical form: a list of (key, value) pairs with strictly rising keys
and no entry equal to what an unlisted key reads as. Memories, buffers and register files are such tables. -/

namespace Sys2Proof.Machine

/-- A sparse table; what an unlisted key reads as is given at each use. -/
abbrev Tab (α : Type) := List (Nat × α)

/-- The value at a key. -/
def Tab.get {α : Type} (d : α) : Tab α → Nat → α
  | [], _ => d
  | (k, v) :: t, a => if k = a then v else Tab.get d t a

/-- Drop every entry of a key. -/
def Tab.drop {α : Type} : Tab α → Nat → Tab α
  | [], _ => []
  | (k, v) :: t, a => if k = a then Tab.drop t a else (k, v) :: Tab.drop t a

/-- Put an entry before the first larger key. -/
def Tab.ins {α : Type} (a : Nat) (v : α) : Tab α → Tab α
  | [] => [(a, v)]
  | (k, w) :: t => if a < k then (a, v) :: (k, w) :: t else (k, w) :: Tab.ins a v t

/-- Write a value at a key, keeping the canonical form. -/
def Tab.put {α : Type} [DecidableEq α] (d : α) (t : Tab α) (a : Nat) (v : α) : Tab α :=
  if v = d then Tab.drop t a else Tab.ins a v (Tab.drop t a)

/-- The keys rise strictly above a bound. -/
def Tab.rising {α : Type} : Nat → Tab α → Bool
  | _, [] => true
  | b, (k, _) :: t => decide (b < k) && Tab.rising k t

/-- The canonical form. -/
def Tab.wf {α : Type} [DecidableEq α] (d : α) : Tab α → Bool
  | [] => true
  | (k, v) :: t => decide (v ≠ d) && Tab.rising k t && Tab.wf d t

/-- Change every value of a table that reads as `d` where it lists nothing, keeping the canonical form. -/
def tabMap {α : Type} [DecidableEq α] (d : α) (f : α → α) (t : Tab α) : Tab α :=
  (t.map (fun e => (e.1, f e.2))).filter (fun e => e.2 != d)

/-- Write bytes from a key on. -/
def Tab.putBytes (t : Tab Byte) (a : Nat) : List Byte → Tab Byte
  | [] => t
  | b :: bs => Tab.putBytes (Tab.put 0 t a b) (a + 1) bs

/-- The bytes of a number, least significant first. -/
def leBytes : Nat → Nat → List Byte
  | 0, _ => []
  | n + 1, v => BitVec.ofNat 8 v :: leBytes n (v / 256)

/-- The number whose bytes stand from a key on, least significant first. -/
def Tab.leNat (t : Tab Byte) (a : Nat) : Nat → Nat
  | 0 => 0
  | n + 1 => (Tab.get 0 t a).toNat + 256 * Tab.leNat t (a + 1) n

end Sys2Proof.Machine
end

