-- ==== Sys2Proof/Machine/State.lean ====
section
/-! DEFINITION. The state of the block: every register, table, queue, counter, mode and pin the spec gives it,
as plain data, and `State.reset`. INVENTORY.md lists each field with its rule and its reset value. -/

namespace Sys2Proof.Machine

/-- The reasons a command can stop the model. -/
inductive Fault where
  /-- Raised by a meaning whose command names an engine, lane or sensor cell with a number that R9, R10 or
  R371 says does not exist. Safe: the hardware has no such unit, so no such event happens. -/
  | noSuchUnit
deriving DecidableEq, Repr

/-- The reasons a command has no meaning. -/
inductive Refusal where
  /-- Raised by the dispatch alone, for a command without a meaning. Safe: nothing can be proved about it. -/
  | notModelled (mnemonic : String)
deriving DecidableEq, Repr

/-- What the device sends out, in order: DMA writes, messages, read data and answers (assumption 7). -/
inductive Out where
  /-- The data of a register read, an access that completed with Unsupported Request (R26), and a configuration request that
  completed with Configuration Request Retry Status (R36). -/
  | read (v : QWord)
  | unsupported
  | crs
  /-- A DMA read of `len` bytes of host memory under a function's routing ID (R24). -/
  | readReq (fn : Nat) (addr : QWord) (len : Nat)
  /-- `len` output bytes of an item to host memory; byte k is `Config.freeByte (draw + k)` (R14, R69). -/
  | data (fn : Nat) (addr : QWord) (len draw : Nat)
  /-- Zeros over `len` bytes of host memory (R256). -/
  | zeros (fn : Nat) (addr : QWord) (len : Nat)
  /-- A completion entry, its 16 bytes as host memory takes them (R51, R63). -/
  | completion (fn q : Nat) (addr : QWord) (bs : List Byte)
  /-- An MSI-X message (R37, R114). -/
  | msix (fn vec : Nat) (addr : QWord) (data : Word)
  /-- A trace record under the PF's routing ID, its 32 bytes (R95, R96). -/
  | trace (fn : Nat) (addr : QWord) (bs : List Byte)
  /-- Bytes written by DMA under the PF's or a function's routing ID (R24). -/
  | bytes (fn : Nat) (addr : QWord) (bs : List Byte)
  /-- A mailbox response is in the buffer (R334). -/
  | mbDone (fn : Nat)
  /-- An LTR message (R429). -/
  | ltr (field : BitVec 16) (require : Bool)
  /-- An AER log entry against a function: Unsupported Request or Advisory Non-Fatal (R37). -/
  | aer (fn : Nat) (advisory : Bool)
  /-- An SPDM, IDE_KM or DOE answer on a transport; `code` names it (R40). -/
  | spdm (t : Transport) (code : Nat) (words : List QWord)
  | doe (words : List Nat)
  /-- An I3C answer: bytes, or a NACK (R442). -/
  | i3c (bs : List Nat)
  | i3cNack
  /-- An in-band interrupt with its mandatory data byte (R442). -/
  | ibi (b : Byte)
  /-- An MCTP answer (R444). -/
  | mctp (bs : List Nat)
  /-- Bits shifted out of the TAP (R470). -/
  | tdo (nbits : Nat) (v : BitVec 128)
  /-- A Pritan frame to a peer's window (R451), or a relay-ring entry (R450): the ring, the entry's number, receiver, offset
  and length, with the value of a CONSUMED word. -/
  | frame (fn : Nat) (addr : QWord) (typ sender receiver : Nat) (fseq mseq : QWord) (tenant slot result : Nat)
  | relay (fn : Nat) (ring : QWord) (entry receiver off len : Nat) (v : QWord)
deriving DecidableEq, Repr

/-! ## The host port -/

/-- Registers of the host port (R20 to R42). `buses` and `ari` are what the platform above the device gives: bus numbers assigned,
and ARI Forwarding (R20, R23). `vfSetAt` is the tick in which VF Enable was set, `linkBroken` says that the link stream of IDE
failed and waits for fresh keys (R38). -/
structure Hif where
  linkUp : Bool := false
  flit : Bool := false
  rate : BitVec 4 := 0
  width : BitVec 5 := 0
  ideRequire : Bool := false
  linkSecure : Bool := false
  selSecure : BitVec 8 := 0
  keyed : BitVec 9 := 0
  lpbkLane : BitVec 4 := 0
  lpbkDepth : BitVec 3 := 0
  lpbkErr : Word := 0
  lpbkAddr : QWord := 0
  lpbkPartner : Bool := false
  cfgReady : Bool := false
  buses : Nat := 4
  numVfs : Nat := 0
  vfEnable : Bool := false
  ltrEnable : Bool := false
  ltrMax : BitVec 16 := 0
  ltrMaxNo : BitVec 16 := 0
  ari : Bool := true
  vfBar0 : QWord := 0
  vfBar2 : QWord := 0
  vfSetAt : Option Nat := none
  linkBroken : Bool := false
deriving DecidableEq, Repr

/-- The SPDM responder (R40, R444). `asym`, `hash`, `dhe` and `aead` are the algorithms agreed: ECDSA P-384, SHA-384, secp384r1
and AES-256-GCM. -/
structure Spdm where
  versioned : Bool := false
  caps : Bool := false
  algs : Bool := false
  asym : Bool := false
  hash : Bool := false
  dhe : Bool := false
  aead : Bool := false
  session : Option Transport := none
  finished : Bool := false
  keyGen : Nat := 0
deriving DecidableEq, Repr

/-! ## Functions and tenants -/

/-- The states of R99. -/
inductive TState where
  | notCreated | active | suspended
deriving DecidableEq, Repr

/-- One MSI-X vector: address, data, mask bit and PBA bit (R27, R37). -/
structure MsixVec where
  addr : QWord := 0
  data : Word := 0
  mask : Bool := true
  pba : Bool := false
deriving DecidableEq, Repr

/-- Tenant configuration in MRAM but for the share (R99, R476). -/
structure Tenant where
  st : TState := .notCreated
  qpLimit : Nat := 0
  msix : Nat := 14
  slots : Nat := 0
  pulpOn : Nat := 0
  pulpHbm : Nat := 0
  ksMib : Nat := 0
  mirrored : Bool := false
deriving DecidableEq, Repr

/-- Share parameters (R103). -/
structure ShareCfg where
  weight : Nat := 0
  commit : Nat := 0
  ceiling : Nat := 0
  backlog : Nat := 0
  burst : Nat := 0
deriving DecidableEq, Repr

/-- The share of a tenant, its change waiting for the tick, its accounts and its counters (R105, R111). -/
structure Share where
  cfg : ShareCfg := {}
  next : Option ShareCfg := none
  commitAcc : Int := 0
  ceilAcc : Int := 0
  backlog : Nat := 0
  shaped : Word := 0
  quota : Word := 0
  overload : Word := 0
deriving DecidableEq, Repr

/-- FN_ registers of a function (R29 to R31), its BARs (R25), and whether a selective IDE stream that covers it failed and waits
for fresh keys (R38). -/
structure FnPort where
  mse : Bool := false
  bme : Bool := false
  ready : Bool := false
  flrBusy : Bool := false
  ideSecure : Bool := false
  evtVec : BitVec 12 := 0
  evtEn : Bool := false
  fetchStop : Bool := false
  events : BitVec 5 := 0
  latTol : BitVec 16 := 0xFFFF
  dbDrops : Word := 0
  bar0 : QWord := 0
  bar2 : QWord := 0
  bar4 : QWord := 0
  ideBroken : Bool := false
deriving DecidableEq, Repr

/-- A mailbox (R332, R333). -/
structure Mbox where
  vec : BitVec 12 := 0
  ien : Bool := false
  busy : Bool := false
  done : Bool := false
  buf : Tab Byte := []
deriving DecidableEq, Repr

/-- The RNG window (R324 to R326). -/
structure RngWin where
  buf : List Byte := []
  underrun : Bool := false
  underruns : Word := 0
deriving DecidableEq, Repr

/-- Counters of a Pulp partition (R217). -/
structure PulpPart where
  epoch : Word := 0
  hitsOn : Word := 0
  hitsHbm : Word := 0
  misses : Word := 0
  evicts : Word := 0
deriving DecidableEq, Repr

/-- One function with everything kept for its tenant. -/
structure FnRec where
  port : FnPort := {}
  msixMask : Bool := false
  msix : Tab MsixVec := []
  ten : Tenant := {}
  share : Share := {}
  mb : Mbox := {}
  rngw : RngWin := {}
  pulp : PulpPart := {}
deriving DecidableEq, Repr

/-! ## Queue pairs -/

/-- One completed or running fragment-list walk (R53 to R55); `next` and `at_` are the count and address of the list to read next. -/
structure Walk where
  step : Nat
  output : Bool
  lists : Nat
  next : Nat
  at_ : QWord
  sum : Nat
  segs : List (QWord × Nat)
  finished : Bool
  bad : Option (Status × Reason)
deriving DecidableEq, Repr

/-- An item fetched and not yet accepted: its entries and its walks. -/
structure Fetched where
  entries : List (List QWord)
  walks : List Walk := []
deriving DecidableEq, Repr

/-- A queue pair (R43 to R50, R113 to R115). -/
structure Qp where
  valid : Bool := false
  num : Nat := 0
  sqBase : QWord := 0
  sqDepth : Nat := 0
  cqBase : QWord := 0
  cqDepth : Nat := 0
  vector : Nat := 0
  sqHead : Nat := 0
  sqTail : Nat := 0
  cqHead : Nat := 0
  cqTail : Nat := 0
  phase : Bool := true
  errCause : Nat := 0
  outstanding : Nat := 0
  coalCount : Nat := 1
  coalTime : Nat := 0
  unsig : Nat := 0
  oldest : Nat := 0
  nextInt : Option (Nat × Nat × Nat) := none
  fetched : List Fetched := []
deriving DecidableEq, Repr

/-- The queue manager (R72). Queue pairs stand at key 4,096 × function + q. -/
structure Qm where
  qps : Tab Qp := []
  sel : BitVec 16 := 0
  cplLost : Word := 0
deriving DecidableEq, Repr

/-! ## Items -/

/-- A descriptor or punnet step entry, its fields cut out (R52, R59). -/
structure Desc where
  opcode : Nat := 0
  param : Nat := 0
  kind : Nat := 0
  prio : Nat := 0
  bulk : Bool := false
  tag : Word := 0
  flow : Word := 0
  deadline : Nat := 0
  key : QWord := 0
  key2 : QWord := 0
  inAddr : QWord := 0
  inLen : Nat := 0
  inFrags : Nat := 0
  outFrags : Nat := 0
  outAddr : QWord := 0
  outLen : Nat := 0
  opArg : Nat := 0
deriving DecidableEq, Repr

/-- The punnet fields of a step entry (R59, R60). -/
structure Link where
  guardMask : Nat := 0
  step : Nat := 0
  outMask : Nat := 1
  srcs : List Nat := []
  keysrc : Nat := 0
deriving DecidableEq, Repr

/-- One output of an opcode: its length, whether it is secret, and the attribute word of a key-type
internal value (R73, R295). -/
structure OutSpec where
  len : Nat
  secret : Bool := false
  key : Option QWord := none
deriving DecidableEq, Repr

/-- A dispatch-table entry (R73), as Orchard keeps it with an item (R346). -/
structure OpEntry where
  cls : UnitClass
  env : Nat
  envFrag : Nat := 0
  ext : Bool := false
  entropy : Bool := false
  zest : Bool := false
  families : BitVec 16
  outs : List OutSpec
deriving DecidableEq, Repr

/-- Where a step stands. -/
inductive Phase where
  /-- Behind its flow, its guards or its inputs (R60, R76). -/
  | held
  /-- In the entropy-wait list since a tick, for ZEST or CENTRAL (R89). -/
  | entropy (zest : Bool) (since : Nat)
  /-- In the ready list of a region. -/
  | placed
  /-- Dispatched and running. -/
  | running
  /-- The outcome is fixed and waits for the due tick. -/
  | staged
  /-- A stopped public job, which posts when its scrub ends (R71, R120). -/
  | scrub
  /-- The posting port still writes, releases or zeroes (R255, R256). -/
  | port
  /-- Ended, with its result available. -/
  | done
deriving DecidableEq, Repr

/-- Why a unit was asked to stop at its next safe point (R144). -/
inductive StopWhy where
  | cancel | reset | tamper | overrun
deriving DecidableEq, Repr

/-- A step of an item; a single item is one step with number 0. -/
structure Step where
  num : Nat := 0
  d : Desc := {}
  lk : Link := {}
  entry : OpEntry
  secret : Bool := false
  phase : Phase := .held
  region : Fin 4 := 0
  unit : Nat := 0
  disp : Option Nat := none
  first : Option Nat := none
  due : Option Nat := none
  extended : Bool := false
  res : Option JobResult := none
  stop : Option StopWhy := none
  portAt : Option Nat := none
  wait : Nat := 0
  lost : Option Nat := none
  lostFrom : Nat := 0
  heldAt : Option Nat := none
  endAt : Option Nat := none
  rerun : Bool := true
  reruns : Nat := 0
  deferred : Bool := false
  pulpMiss : Bool := false
  wdrr : Bool := false
  charged : Nat := 0
  counted : Bool := false
  genAt : Nat := 0
  inFrags : List Nat := []
  ins : List (QWord × Nat) := []
  segs : List (QWord × Nat) := []
  svc : Nat := 0
  written : Nat := 0
  portLeft : Nat := 0
  sealBad : Bool := false
  zeroing : Bool := false
deriving DecidableEq, Repr

/-- A status with its reason and punnet step, and the tick in which it was decided (R67). -/
structure Verdict where
  st : Status
  why : Reason := .none
  step : Nat := 0
  at_ : Nat := 0
deriving DecidableEq, Repr

/-- An accepted and unposted item (R52 to R71). -/
structure Item where
  seq : Nat
  fn : Nat
  q : Nat
  qpn : Nat
  opcode : Nat := 0
  param : Nat := 0
  tag : Word := 0
  prio : Nat := 0
  bulk : Bool := false
  flow : Word := 0
  deadline : Nat := 0
  acc : Nat
  punnet : Bool := false
  steps : List Step := []
  flowHead : Bool := true
  family : Option Nat := none
  decided : Option Verdict := none
  fail : Option Verdict := none
  cancelled : Bool := false
  shaped : Bool := false
  retried : Bool := false
  counted : Bool := false
deriving DecidableEq, Repr

/-- A region as ORC_REGION_STATE, R348 and R378 see it. `failed` says that a reload or reset of it failed, which
keeps it out of service. -/
structure Region where
  inService : Bool := false
  draining : Bool := false
  reloading : Bool := false
  family : Nat := 0
  version : BitVec 16 := 0
  quarantine : Bool := false
  failed : Bool := false
  choice : Option Nat := none
  lastOut : Nat := 0
  thermal : Nat := 0
deriving DecidableEq, Repr

/-- Orchard (R73 to R98, R107). -/
structure Orc where
  tick : Nat := 0
  tickLatch : Word := 0
  regions : List Region := [{}, {}, {}, {}]
  items : List Item := []
  seq : Nat := 0
  delayPeak : Nat := 0
  extend : Nat := 0
  extendLatch : Word := 0
  budgetWaits : Word := 0
  budgetAt : Option Nat := none
  traceBase : QWord := 0
  traceCtrl : Word := 0
  traceNext : Option Word := none
  traceHead : Nat := 0
  traceTail : Nat := 0
  traceLost : Word := 0
  lastRegion : List (Fin 4) := [3, 3, 3, 3]
  current : Tab Nat := []
  deficit : Tab Int := []
  flowsPassed : List (Nat × Word × Nat) := []
  msgs : List (Nat × Nat) := []
  portUsed : Tab Nat := []
  tableSet : Bool := false
deriving DecidableEq, Repr

/-! ## Engines, lanes and generators -/

/-- The key register of an engine (R136, R137, R224), or the key extension window where `window` is set (R127): `shares` planes of
`len` bytes hold a key, 0 none, and `left` blocks of 32 bytes of it are still to be written. Byte k of the key is `Config.freeByte (key + k)`, byte k of the planes above 0, one plane after
another, `Config.freeByte (mask + k)`. The attribute area holds the key's attribute word and its tenant. -/
structure KeyReg where
  shares : Nat := 0
  len : Nat := 0
  left : Nat := 0
  key : Nat := 0
  mask : Nat := 0
  window : Bool := false
  attr : QWord := 0
  tenant : Nat := 0
deriving DecidableEq, Repr

/-- The internals of an engine (R123, R124, R132, R136, R141, R144, R221): the sequencer, the mask or blinding buffer, operand
memory, the key register, and the key of a scrub that runs. Operand memory holds at a row's number in the table the place of its
32 open bytes; a row that is not listed holds zeros. `loops` are the loop counters in use: the word of the LOOP and the rounds
left. `op` and `param` are the opcode and PARAM of its job, and `ended` says that the sequencer stands at STAGE_END or FAIL. -/
structure EngineCore where
  op : Nat := 0
  param : Nat := 0
  pc : Nat := 0
  stack : List Nat := []
  loops : List (Nat × Nat) := []
  scalars : Tab Word := []
  flags : QWord := 0
  maskBits : Nat := 0
  rows : Tab Nat := []
  key : KeyReg := {}
  sinceSafe : Nat := 0
  ended : Bool := false
  scrubKey : Option Nat := none
deriving DecidableEq, Repr

/-- One engine or lane (R11, R152, R244, R263). -/
structure Cell where
  inService : Bool := false
  outFault : Bool := false
  outAdmin : Bool := false
  uncorr : Byte := 0
  waiting : Option Nat := none
  job : Option (Nat × Nat) := none
  scrubbing : Bool := false
  dirty : BitVec 160 := 0
  credit : Int := 2097151
  gf : Nat := 0
  core : EngineCore := {}
deriving DecidableEq, Repr

/-- A Zest or blinding generator (R133, R134, R153, R225). The 48 bytes of its seed and nonce are the open bytes from `seed` on.
`blocks` are the blocks it had produced at tick `since`, from which its clock runs on. -/
structure Gen where
  seeded : Bool := false
  pastLimit : Bool := false
  failing : Bool := false
  pending : Bool := false
  seed : Nat := 0
  blocks : Nat := 0
  since : Nat := 0
  last : Nat := 0
  reseeds : Word := 0
  hits : Word := 0
deriving DecidableEq, Repr

/-- A Pip cluster (R149 to R152), or the Medlar engines of a region (R229). A control-store word is that of its bank's bundle
(`Config.pipWord`, `Config.medWord`) with the bits flipped that `flips` holds, at 8,192 × bank + address, and for a Medlar engine
at 2,048 × (engine in its region) + 1,024 × bank + address (R149, R226). -/
structure Cluster where
  activeB : Bool := false
  altValid : Bool := false
  loading : Bool := false
  selfTest : Bool := false
  family : Nat := 0
  version : BitVec 16 := 0
  altFamily : Nat := 0
  altVersion : BitVec 16 := 0
  flips : Tab (BitVec 288) := []
  corr : Word := 0
  dispatch : Word := 0
deriving DecidableEq, Repr

/-- One of the 1,024 on-chip working context slots in use: the item, step and freshness counter of the context record that it
copies (R253). -/
structure CtxSlot where
  seq : Nat
  step : Nat
  ctr : QWord
deriving DecidableEq, Repr

/-- All engines, lanes and generators. Cells stand at 256 × class code + number, clusters at their number,
the Medlar engines of region r at 16 + r, Zest generators at their cluster, blinding generators at
16 + pair, Medlar pair and lane group dispatch counters at 16 + pair and 32 + group. -/
structure Eng where
  cells : Tab Cell := []
  gens : Tab Gen := []
  clusters : Tab Cluster := []
  counts : Tab Word := []
  medHits : Word := 0
  medCorr : Word := 0
  curScrubbed : Word := 0
  curCorr : Word := 0
  legacy : Word := 0
  legacyNext : Option Word := none
  slots : List CtxSlot := []
deriving DecidableEq, Repr

/-! ## Memory and Pulp -/

/-- A value sealed in HBM staging: its staging slot and freshness counter make the IV, byte k of its tag is
`Config.freeByte (tag + k)`; the item and step it belongs to and its length (R206). -/
structure Sealed where
  slot : Nat
  ctr : QWord
  tag : Nat
  seq : Nat
  step : Nat
  len : Nat
deriving DecidableEq, Repr

/-- HBM (R200 to R207, R219, R220). `keyIn`, `keySeal` and `keyAuth` are the three per-boot keys while they are held (R205). -/
structure Hbm where
  trained : Bool := false
  fillDone : Bool := false
  groups : BitVec 4 := 0
  pcOut : QWord := 0
  corr : Word := 0
  uncorr : Word := 0
  sealFail : Word := 0
  patrols : Word := 0
  lpbkPc : BitVec 6 := 0
  lpbkDepth : BitVec 3 := 0
  lpbkErr : Word := 0
  keyIn : Option Nat := none
  keySeal : Option Nat := none
  keyAuth : Option Nat := none
  sealCount : QWord := 0
  sealed : List Sealed := []
deriving DecidableEq, Repr

/-- A Pulp entry (R209 to R211); owner 0x8000 is the shared pool. `slice` is the region whose on-chip slice holds it; byte k of
the public key is `Config.freeByte (pkAt + k)`, of the expanded form `Config.freeByte (bodyAt + k)`, and of an HBM entry's AUTH
`Config.freeByte (authAt + k)`. `put` is the tick of its insertion. -/
structure PulpEntry where
  owner : Nat
  tag : BitVec 128
  scheme : Nat
  param : Nat
  family : Nat
  ver : BitVec 12
  epoch : Word
  kib : Nat
  onChip : Bool
  ref : Bool
  slice : Fin 4 := 0
  pkAt : Nat := 0
  bodyAt : Nat := 0
  authAt : Option Nat := none
  put : Nat := 0
deriving DecidableEq, Repr

/-- A published shared key (R213): its vault slot or blob handle of tenant 0, its entry's size and tier, and the entry while it
is built. -/
structure Shared where
  handle : QWord
  kib : Nat
  onChip : Bool
  entry : Option PulpEntry
deriving DecidableEq, Repr

/-- The Pulp cache (R208 to R217). -/
structure Pulp where
  resOn : Nat := 0
  resHbm : Nat := 0
  tier : Nat := 32
  integFail : Word := 0
  sharedHits : Word := 0
  sel : BitVec 10 := 0
  entries : List PulpEntry := []
  shared : List Shared := []
  sharedEpoch : Word := 0
deriving DecidableEq, Repr

/-! ## The vault -/

/-- A vault slot (R286 to R292, R304, R305). `tagv` is the Pulp tag of its public key (R208); byte k of the key, for a private
key byte k of its public key, is `Config.freeByte (keyAt + k)`, and byte k of a secret key `Config.freeByte (secAt + k)`. A slot
that is `broken` failed the tag of a share and reads as absent until it is deleted (R287). `loc` and `units` are its place in the
heap in units of 64 bytes, and `wseq` the sequence number of the commit that wrote its shares, which with `loc` makes their IV. -/
structure VSlot where
  occ : Bool := false
  attr : QWord := 0
  pub : QWord := 0
  counter : QWord := 0
  hash : BitVec 128 := 0
  uses : Nat := 0
  limit : Nat := 0
  loc : Nat := 0
  units : Nat := 0
  len : Nat := 0
  tagv : BitVec 128 := 0
  keyAt : Nat := 0
  secAt : Nat := 0
  wseq : Nat := 0
  reserved : Bool := false
  broken : Bool := false
deriving DecidableEq, Repr

/-- A key-store blob (R296); `loc` is its place in the key store. -/
structure Blob where
  occ : Bool := false
  attr : QWord := 0
  pub : QWord := 0
  len : Nat := 0
  version : QWord := 0
  tagv : BitVec 128 := 0
  keyAt : Nat := 0
  secAt : Nat := 0
  loc : Nat := 0
  reserved : Bool := false
deriving DecidableEq, Repr

/-- A commit record (R303). -/
structure CommitRec where
  typ : Nat
  action : Nat
  tenant : Nat
  slot : Nat
  counter : QWord
  hash : BitVec 128
  newLoc : Nat
  oldLoc : Nat
  seq : Nat
  crc : Word := 0
deriving DecidableEq, Repr

/-- The vault controller (R283 to R312). Slots stand at 8,192 × tenant + slot, blobs at 2^20 × tenant + number. `aliasAt` is the
place of the alias key pairs and certificates while they are held (R306), `ksAt` that of the key-store key, and `tree` that of the
root of the key store's hash tree (R296). -/
structure Vlt where
  unsealed : Bool := false
  emptyInit : Bool := false
  latched : Bool := false
  root : Nat := 0
  replayed : Byte := 0
  discarded : Byte := 0
  keysHalted : Bool := false
  slots : Tab VSlot := []
  blobs : Tab Blob := []
  importIds : Tab (BitVec 128) := []
  ring : List CommitRec := []
  seq : Nat := 0
  seqLatch : Word := 0
  checkpoint : Nat := 0
  tree : Nat := 0
  reject : Word := 0
  aliasKeys : Bool := false
  aliasAt : Nat := 0
  usesThisSec : Nat := 0
  usesSec : Nat := 0
  vek : Bool := false
  ksKey : Bool := false
  ksAt : Nat := 0
deriving DecidableEq, Repr

/-- What the vault keeps in MRAM and battery-backed RAM outside its slots (R284, R286, R289), and the HBM training values in the
MRAM trim area once they are stored: byte k is `Config.freeByte (trim + k)` (R201). -/
structure Nv where
  mwk : Option Nat := none
  headerMwk : Option Nat := none
  headerRoot : Nat := 0
  mwkGen : Nat := 0
  dusIntact : Bool := true
  fuses : BitVec 30 := 0
  svnMin : Nat := 0
  perso : BitVec 256 := 0
  spread : Bool := true
  trim : Option Nat := none
  sbInstance : BitVec 16 := 0
  sbInstanceSet : Bool := false
deriving DecidableEq, Repr

/-! ## Entropy -/

/-- A noise source (R313, R328). -/
structure Src where
  ok : Bool := false
  startup : Bool := false
  failed : Bool := false
  dead : Bool := false
  runs : Nat := 0
  fails : Word := 0
deriving DecidableEq, Repr

/-- The central entropy service (R313 to R330). -/
structure Rng where
  srcs : List Src := [{}, {}, {}]
  ready : Bool := false
  drbgFailed : Bool := false
  pool : Nat := 0
  last : Nat := 0
  demand : Bool := false
  reseeds : Nat := 0
  reseedsLatch : Word := 0
  perso : BitVec 256 := 0
  rawSrc : BitVec 2 := 0
  rawEn : Bool := false
  katOk : Bool := true
deriving DecidableEq, Repr

/-! ## Management, life cycle, Rind -/

/-- A firmware bank (R342); byte k of its three digests is `Config.freeByte (dig + k)`. -/
structure Bank where
  valid : Bool := false
  svn : Nat := 0
  major : Nat := 0
  minor : Nat := 0
  patch : Nat := 0
  stateMask : Nat := 0
  families : BitVec 16 := 0
  bundle : BitVec 16 := 0
  fwLen : Nat := 0
  ucodeLen : Nat := 0
  tableLen : Nat := 0
  dig : Nat := 0
deriving DecidableEq, Repr

/-- The management processor (R331 to R352). `rlReq` and `actReq` are the requests that wait for a reload and for a
firmware start: function, command and TOKEN. `restart` is a restart in progress: its LAST_CAUSE, and whether it
abandons a trial. `stage` is the FW_STAGE in progress: its request and the image that its DMA brings. -/
structure Mp where
  service : Bool := false
  running : Bool := false
  loader : Bool := false
  activeB : Bool := false
  trial : Bool := false
  reverted : Bool := false
  staging : Bool := false
  lastCause : Nat := 0
  epoch : Nat := 0
  restarts : Word := 0
  bankA : Bank := {}
  bankB : Bank := {}
  rlBusy : Bool := false
  rlStep : Nat := 0
  rlRegion : Fin 4 := 0
  rlBack : Bool := false
  rlStart : Nat := 0
  rlLimit : Nat := 0
  rlReset : Bool := false
  rlArgs : List QWord := []
  katDone : Bool := false
  rlReq : Option (Nat × Nat × Word) := none
  actReq : Option (Nat × Nat × Word) := none
  restart : Option (Nat × Bool) := none
  stage : Option (MbReq × FwImage) := none
deriving DecidableEq, Repr

/-- The life-cycle controller (R353 to R370). -/
structure Lc where
  started : Byte := 0
  complete : Byte := 0
  ikh : BitVec 384 := 0
  ikhSet : Bool := false
  repaired : Bool := false
  testModes : Bool := false
  debugOpen : Bool := false
  nonce : BitVec 128 := 0
  retained : BitVec 128 := 0
  token : Option Token := none
  resValid : Bool := false
  resAction : Nat := 0
  resStatus : Nat := 0
  resReason : Nat := 0
  schedLc : Option Nat := none
  schedWarm : Option Nat := none
deriving DecidableEq, Repr

/-- An always-on latch entry (R384). -/
structure Latch where
  group : Nat
  action : Nat
  supply : Nat
  count : Nat
  sec : Nat
deriving DecidableEq, Repr

/-- Rind (R371 to R389). Group configurations and event times stand at their group and 8 × group + cell. `stored` says
that a boot has loaded the configuration before (R381). -/
structure Rnd where
  hold : Bool := false
  configValid : Bool := false
  level : Nat := 0
  supply : Nat := 2
  latch : List Latch := []
  latchOvf : Byte := 0
  alarm : BitVec 30 := 0
  present : BitVec 30 := 0
  stimFail : BitVec 30 := 0
  stored : Bool := false
  alarmed : Bool := false
  tlow : Byte := 0xD8
  thigh : Byte := 0x7D
  tampPol : BitVec 4 := 0
  cfg : Tab Word := []
  events : Tab (List Nat) := []
  lostAt : Nat := 0
  us : Nat := 0
deriving DecidableEq, Repr

/-! ## Faults and the event recorder -/

/-- A fault source (R396 to R407). -/
structure SrcRec where
  state : Nat := 0
  present : Bool := false
  levelNow : Nat := 0
  acked : Bool := false
  recov : BitVec 16 := 0
  action : Option Nat := none
  cap : Option Nat := none
  grace : Nat := 0
  graceAt : Nat := 0
  tick : Nat := 0
  quietAt : Nat := 0
  exits : List Nat := []
  out : List (UnitClass × Nat) := []
  regionOut : Bool := false
  lastUnit : Nat := 0xFF
  lastDetail : Nat := 0
deriving DecidableEq, Repr

/-- A history entry (R402). -/
structure Hist where
  seq : Nat
  src : Nat
  unit : Nat
  sev : Nat
  level : Nat
  selfCleared : Bool
  escalated : Bool
  passedUp : Bool
  detail : BitVec 16
  tick : Nat
deriving DecidableEq, Repr

/-- The fault collector (R390 to R408). Region histories stand at their region. -/
structure Flt where
  srcs : Tab SrcRec := []
  cause : BitVec 256 := 0
  firstValid : Bool := false
  firstSelf : Bool := false
  firstEsc : Bool := false
  firstSev : Nat := 0
  firstUnit : Nat := 0
  firstSrc : Nat := 0
  firstTick : Nat := 0
  firstLatch : Word := 0
  hist : List Hist := []
  next : BitVec 16 := 0
  lost : Word := 0
  regHist : Tab (List Hist) := []
  regNext : Tab (BitVec 16) := []
  regLost : Tab (BitVec 16) := []
  histLatch : List Word := [0, 0, 0]
  graceBlk : Nat := 100
  graceReg : Nat := 1000
  graceChip : Nat := 10000
  quiet : Nat := 1000
  recWindow : Nat := 3600
  recCount : Nat := 3
  policyNext : List (List Nat) := []
  recovTotal : BitVec 16 := 0
  sumVec : BitVec 12 := 0
  sumIen : Bool := false
  sumEvents : BitVec 3 := 0
  cfgLoaded : Bool := false
deriving DecidableEq, Repr

/-- The event recorder (R409 to R422). `recs` are the live rolling records: sequence number, offset, length. `newestLatch` is the
offset and the body of the newest RIND_LATCH record (R417). -/
structure Log where
  ready : Bool := false
  foundOpen : Bool := false
  foundClosed : Bool := false
  foundOff : Nat := 0
  nextSeq : BitVec 22 := 0
  newestSeq : BitVec 22 := 0
  newestOff : Nat := 0
  newestTyp : Option Nat := none
  newestBody : List Nat := []
  newestRepeat : Nat := 0
  newestCycle : Nat := 0
  newestLatch : Option (Nat × List Nat) := none
  rollOff : Nat := 0x40000
  recs : List (BitVec 22 × Nat × Nat) := []
  gen : Word := 0
  opSec : Nat := 0
  opStored : Nat := 0
  upAt : Nat := 0
  pcycle : Nat := 0
  dropped : Word := 0
  page : BitVec 5 := 0
  inSec : Nat := 0
  secNow : Nat := 0
  dropIn : Nat := 0
  dropSec : Nat := 0
  mem : Tab Byte := []
deriving DecidableEq, Repr

/-! ## Power, groups, sideband, TAP -/

/-- The power, clock and reset manager (R423 to R441). -/
structure Pwr where
  vaon : Bool := false
  main : Bool := false
  perst : Bool := true
  held : Bool := false
  extest : Bool := false
  standby : Bool := false
  state : Nat := 0
  p1 : Bool := false
  deepest : Nat := 3
  idleP2 : Nat := 100
  idleP3 : Nat := 10
  idleP4 : Nat := 60
  policyNext : List (List Nat) := []
  ltr : BitVec 16 := 0
  resP2 : Nat := 0
  resP3 : Nat := 0
  resP4 : Nat := 0
  enteredAt : Nat := 0
  idleSince : Nat := 0
  lastTol : Nat := 0xFFFF
  exiting : Bool := false
  temps : List Byte := [0, 0, 0, 0, 0]
  rootLock : Bool := false
  hbm0Lock : Bool := false
  hbm1Lock : Bool := false
  sscEn : Bool := true
  xtal : Bool := false
  avsLimit : Bool := false
  avs : Nat := 750
  shutFlag : Bool := false
  bootSel : Bool := false
deriving DecidableEq, Repr

/-- A peer of the group (R450, R455, R459). `tx` and `rx` are the FSEQ of the last frame to it and of the last taken from it;
`outq` holds frames that wait: TYPE, MSEQ, tenant, slot and result. -/
structure Peer where
  member : Bool := false
  deviceId : BitVec 128 := 0
  addr : QWord := 0
  inService : Bool := false
  last : Nat := 0
  tx : QWord := 0
  rx : QWord := 0
  resync : Bool := false
  outq : List (Nat × QWord × Nat × Nat × Nat) := []
deriving DecidableEq, Repr

/-- A commit awaiting quorum (R453): function, command, token, message number, ACKs, start tick, flags. -/
structure Wait where
  fn : Nat
  cmd : Nat
  token : Word
  mseq : QWord
  acks : Nat
  since : Nat
  applied : Bool
  open_ : Bool := true
  tenant : Nat := 0
  slot : Nat := 0
deriving DecidableEq, Repr

/-- The replication group (R446 to R459). Peers stand at their index. `req` is the TOKEN of a REJOIN that waits for its
resync, `named` the slots that the resync has named, `window` the mirror window. -/
structure Grp where
  member : Bool := false
  minority : Bool := false
  resyncing : Option Nat := none
  index : Nat := 0
  quorum : Nat := 0
  groupId : QWord := 0
  epoch : Word := 0
  mirrorTo : Nat := 0
  pending : List Wait := []
  timeouts : Word := 0
  conflicts : Word := 0
  frameRej : Word := 0
  peerSel : BitVec 6 := 0
  peers : Tab Peer := []
  mseq : QWord := 0
  ringAddr : QWord := 0
  ringLen : Nat := 0
  ringPos : Nat := 0
  gk : Bool := false
  joinOpen : Bool := false
  named : List Nat := []
  req : Option Word := none
  beatAt : Nat := 0
  window : Tab Byte := []
deriving DecidableEq, Repr

/-- The I3C target and MCTP endpoint (R442 to R445, R458). -/
structure Sb where
  daValid : Bool := false
  ibiEn : Bool := false
  hjEn : Bool := false
  eidValid : Bool := false
  da : BitVec 7 := 0
  eid : Byte := 0
  mwl : BitVec 16 := 256
  mrl : BitVec 16 := 256
  rx : Word := 0
  tx : Word := 0
  err : Word := 0
  lpbkDepth : BitVec 3 := 0
  lpbkErr : Word := 0
  held : List Instr := []
deriving DecidableEq, Repr

/-- The test access port (R469 to R471), and memory words written through the debug and memory-test paths. -/
structure Tap where
  ir : Byte := 0x01
  boundary : List Bool := []
  mem : Tab QWord := []
deriving DecidableEq, Repr

/-- The machine. `pending`, `outbox` and `free` are the model's own fields: the queue of commands, what the
device has sent out, and the count of free values read (assumptions 1, 2, 7). -/
structure State where
  pending : List Instr
  outbox : List Out
  free : Nat
  hif : Hif
  spdm : Spdm
  fns : Tab FnRec
  qm : Qm
  orc : Orc
  eng : Eng
  hbm : Hbm
  pulp : Pulp
  vlt : Vlt
  nv : Nv
  rng : Rng
  mp : Mp
  lc : Lc
  rnd : Rnd
  flt : Flt
  log : Log
  pwr : Pwr
  grp : Grp
  sb : Sb
  tap : Tap
deriving DecidableEq, Repr

/-- Share parameters of tenant 0 while the tenant configuration area is empty (R103). -/
def ShareCfg.tenant0 : ShareCfg :=
  { weight := 16, commit := 0, ceiling := 4294967295, backlog := 65535, burst := 10 }

/-- Tenant 0 while the tenant configuration area is empty (R476). -/
def Tenant.zero : Tenant :=
  { st := .active, qpLimit := 4096, msix := 2048, slots := 3 }

/-- Firmware release 2.4 as bank A holds it (assumption 5). -/
def Bank.release24 : Bank :=
  { valid := true, svn := 0, major := 2, minor := 4, patch := 0, stateMask := 15, families := 1, bundle := 0x0240 }

/-- The machine held in PERST_N with the main rails good, on blank OTP, with an empty tenant configuration
area and firmware 2.4 in bank A (assumption 5). -/
def State.reset : State :=
  { pending := [], outbox := [], free := 144
    hif := {}, spdm := {}
    fns := [(0, { ten := Tenant.zero, share := { cfg := ShareCfg.tenant0 } })]
    qm := {}, orc := {}, eng := {}, hbm := {}, pulp := {}, vlt := {}, nv := {}, rng := {}
    mp := { bankA := Bank.release24 }
    lc := {}
    rnd := { supply := 0 }
    flt := {}, log := {}
    pwr := { vaon := true, main := true, standby := true }
    grp := {}, sb := {}, tap := {} }

end Sys2Proof.Machine
end

