-- ==== Sys2Proof/WellFormed.lean ====
section
/-! DEFINITION. Which commands can arise: the numbers they carry name units, lanes, queue pairs and registers
that the spec gives the block. A command that is not well formed names something that does not exist. -/

namespace Sys2Proof

/-- Engines and lanes of each class in the device (R9). -/
def UnitClass.units : UnitClass → Nat
  | .pip => 128 | .med => 32 | .cip => 8 | .dig => 16

/-- A lane class (R246), as against an engine class. -/
def UnitClass.isLane : UnitClass → Bool
  | .cip | .dig => true
  | .pip | .med => false

/-- A unit of a class exists (R9, R10). -/
def unitOk (c : UnitClass) (n : Nat) : Bool := decide (n < c.units)

/-- Units listed by a test result exist. -/
def unitsOk (l : List (UnitClass × Nat)) : Bool := l.all (fun x => unitOk x.1 x.2)

/-- A cell exists in a sensor group (R371): the twelve light groups have eight cells, the others one. -/
def groupCellOk (g c : Nat) : Bool := if g < 12 then decide (c < 8) else c == 0

/-- What a boot meets names only units and sources that exist. -/
def BootIn.wf (b : BootIn) : Bool := unitsOk b.katFail && decide (b.rngRuns.length ≤ 3)

/-- A function's doorbell window holds 16 queue pairs in each of its pages; the PF has 4,096 (R22, R28). -/
def qOk (q : Nat) : Bool := decide (q < 4096)

/-- The command names only what exists. -/
def Instr.wf : Instr → Bool
  | .perstNRelease b | .brownOutRecover b | .p4Wake _ b | .lcReset b | .zeroise _ b | .warmReset _ b => b.wf
  | .fetchIssue _ q l => qOk q && l.length % 64 == 0
  | .coalesceTimer _ q | .sqDb _ q _ _ | .cqDb _ q _ _ | .cancel _ q _ _ | .itemAccept _ q => qOk q
  | .fragmentListRead _ q _ _ l => qOk q && l.length % 16 == 0
  | .waitwork c n | .stageEnd c n _ | .fail c n | .publicEnd c n _ | .scrubEnd c n
  | .hostReadAllowanceExpire c n | .safePointStop c n | .safePointTimeout c n | .uncorrectedFault c n _ _ =>
    unitOk c n
  | .gfCreditRecovered n => unitOk .pip n
  | .fragmentServiceEnd c n _ | .laneReadAllowanceExpire c n => c.isLane && unitOk c n
  | .regionReloadDone _ _ l => unitsOk l
  | .rindSensorEvent g c _ | .rindStimulusCell g c _ _ => groupCellOk g.val c.val
  | _ => true

end Sys2Proof
end

