-- ==== Sys2Proof/Machine/Ops.lean ====
section
/-! DEFINITION. The named operations over the state that every family uses: functions and their events, MSI-X,
readiness, queue pairs, regions, cells, free values, and the event recorder. -/

namespace Sys2Proof.Machine

/-! ## Functions -/

def State.fn (s : State) (f : Nat) : FnRec := Tab.get {} s.fns f

def State.setFn (s : State) (f : Nat) (r : FnRec) : State := { s with fns := Tab.put {} s.fns f r }

def State.setPort (s : State) (f : Nat) (p : FnPort) : State := s.setFn f { s.fn f with port := p }

def State.setMb (s : State) (f : Nat) (m : Mbox) : State := s.setFn f { s.fn f with mb := m }

def State.setShare (s : State) (f : Nat) (h : Share) : State := s.setFn f { s.fn f with share := h }

def State.setTen (s : State) (f : Nat) (t : Tenant) : State := s.setFn f { s.fn f with ten := t }

def State.setRngw (s : State) (f : Nat) (w : RngWin) : State := s.setFn f { s.fn f with rngw := w }

def State.setPulpPart (s : State) (f : Nat) (w : PulpPart) : State := s.setFn f { s.fn f with pulp := w }

/-- Something leaves the device. -/
def State.emit (s : State) (o : Out) : State := { s with outbox := s.outbox ++ [o] }

/-- Read `n` free values: the counter before the read names them. -/
def State.draw (s : State) (n : Nat) : State := { s with free := s.free + n }

def State.now (s : State) : Nat := s.orc.tick

def State.setOrc (s : State) (o : Orc) : State := { s with orc := o }

/-! ## Life-cycle state and modes -/

/-- A row of OTP by its bit (R355). -/
def rowBit (b : Byte) (r : Nat) : Bool := b.getLsbD r

/-- The life-cycle state code 1 to 5 (R353, R356). -/
def State.lcState (s : State) : Nat :=
  if rowBit s.lc.started 7 then 5 else if rowBit s.lc.started 5 then 4
  else if rowBit s.lc.started 3 then 3 else if rowBit s.lc.started 1 then 2 else 1

def State.scrapped (s : State) : Bool := s.lcState == 5

/-- The reason LC_x of a state (R68); only states 1 to 4 have one. -/
def lcReason (n : Nat) : Reason := .lc ⟨(n - 1) % 4, Nat.mod_lt _ (by decide)⟩

/-- The main domain runs: power is good, PERST_N is released and no hold is in force. -/
def State.up (s : State) : Bool :=
  s.pwr.vaon && s.pwr.main && !s.pwr.perst && !s.pwr.held && !s.pwr.extest

/-- HALT_SECRET or above is in force (R376, R395). -/
def State.halted (s : State) : Bool := decide (3 ≤ s.rnd.level)

/-! ## MSI-X -/

def FnRec.vec (r : FnRec) (v : Nat) : MsixVec := Tab.get {} r.msix v

/-- The vector used for a vector number: one at or above FN_MSIX_COUNT selects vector 0 (R31, R333, R404). -/
def FnRec.clampVec (r : FnRec) (v : Nat) : Nat := if r.ten.msix ≤ v then 0 else v

/-- Send the message of a vector, or set its PBA bit while it is masked (R37). Without Bus Master Enable
nothing is written (assumption 11). -/
def State.sendMsix (s : State) (f v : Nat) : State :=
  let r := s.fn f
  let e := r.vec v
  if r.msixMask || e.mask then
    s.setFn f { r with msix := Tab.put {} r.msix v { e with pba := true } }
  else if r.port.bme then s.emit (.msix f v e.addr e.data)
  else s

/-- Set a bit of FN_EVENTS; a bit newly set sends a message on EVT_VEC while EVT_EN is 1 (R31). -/
def State.fnEvent (s : State) (f bit : Nat) : State :=
  let r := s.fn f
  if r.port.events.getLsbD bit then s
  else
    let s1 := s.setPort f { r.port with events := r.port.events ||| BitVec.ofNat 5 (2 ^ bit) }
    if r.port.evtEn then s1.sendMsix f (r.clampVec r.port.evtVec.toNat) else s1

/-- FN_EVENTS bits (R31). -/
def evDbDropped : Nat := 0
def evReady : Nat := 1
def evCplLost : Nat := 2
def evReadFail : Nat := 3
def evBadAccess : Nat := 4

/-- Drop a doorbell write: count it and set DB_DROPPED (R28, R29). -/
def State.dropDb (s : State) (f : Nat) : State :=
  let p := (s.fn f).port
  (s.setPort f { p with dbDrops := satSucc p.dbDrops }).fnEvent f evDbDropped

/-- Draw the three per-boot keys of HBM from the DRBG, 64, 32 and 32 open bytes, once conditioned entropy is ready (R205). -/
def State.drawHbmKeys (s : State) : State :=
  if s.rng.ready then
    { s with hbm := { s.hbm with keyIn := some s.free, keySeal := some (s.free + 64), keyAuth := some (s.free + 96) }
             free := s.free + 128 }
  else { s with hbm := { s.hbm with keyIn := none, keySeal := none, keyAuth := none } }

/-- The three per-boot keys are lost (R205, R309). -/
def Hbm.noKeys (h : Hbm) : Hbm := { h with keyIn := none, keySeal := none, keyAuth := none }

/-- The lowest staging slot that holds no sealed value (DESIGN CHOICE, assumption 56). -/
def Hbm.freeSlot (h : Hbm) : Nat :=
  ((List.range (h.sealed.length + 1)).find? (fun n => h.sealed.all (fun x => x.slot != n))).getD 0

/-- Seal one value of a step into HBM staging under a fresh counter value (R206). -/
def State.sealOne (s : State) (seq step len : Nat) : State :=
  { s with
    hbm := { s.hbm with
      sealCount := s.hbm.sealCount + 1
      sealed := s.hbm.sealed ++ [{ slot := s.hbm.freeSlot, ctr := s.hbm.sealCount, tag := s.free, seq := seq, step := step
                                   len := len }] }
    free := s.free + 16 }

/-! ## Readiness -/

/-- The function exists: the PF always, a VF while VF Enable is 1, ARI Forwarding is on, and its number and bus are assigned
(R20, R36). -/
def State.fnExists (s : State) (f : Nat) : Bool :=
  f == 0 || (s.hif.vfEnable && s.hif.ari && decide (f ≤ s.hif.numVfs) && decide (f < 256 * s.hif.buses) && !s.scrapped)

/-- Commits of a tenant are mirrored: the device is in a group and the tenant is marked (R446, R448). -/
def State.mirrors (s : State) (t : Nat) : Bool := s.grp.member && (s.fn t).ten.mirrored

/-- Membership of a group ends (R448): its settings, the marks of its tenants and the window with it. -/
def State.endGroup (s : State) : State :=
  let s1 := (s.fns.filter (fun e => e.2.ten.mirrored)).foldl (fun a e =>
    a.setTen e.1 { (a.fn e.1).ten with mirrored := false }) s
  { s1 with grp := { ringAddr := s.grp.ringAddr, ringLen := s.grp.ringLen, ringPos := s.grp.ringPos
                     timeouts := s.grp.timeouts, conflicts := s.grp.conflicts, frameRej := s.grp.frameRej
                     peerSel := s.grp.peerSel } }

/-- The vault serves keys to a tenant: unsealed, no halt, and no resync of a mirrored tenant (R379, R456). -/
def State.vaultServes (s : State) (r : FnRec) : Bool :=
  s.vlt.unsealed && !s.vlt.keysHalted && !(s.grp.resyncing.isSome && r.ten.mirrored)

/-- The conditions of READY (R36, R41, R99, R344, R367, R472). -/
def State.readyCond (s : State) (f : Nat) (r : FnRec) : Bool :=
  s.up && s.hif.cfgReady && s.rng.ready && s.mp.katDone && s.vaultServes r && r.ten.st == .active
    && !r.port.flrBusy && !s.rnd.alarmed && !s.scrapped && !s.mp.loader && s.fnExists f
    && s.hif.lpbkDepth == 0 && !s.hif.lpbkPartner && s.hbm.lpbkDepth == 0 && s.sb.lpbkDepth == 0 && !s.rng.rawEn

/-- FN_STATUS.WAIT_CAUSE (R30). -/
def State.waitCause (s : State) (_f : Nat) (r : FnRec) : Nat :=
  if r.port.ready then 0
  else if s.scrapped then 8
  else if s.rnd.alarmed then 5
  else if !s.rng.ready then 1
  else if !s.mp.katDone then 2
  else if !s.vaultServes r then 3
  else if r.ten.st == .notCreated then 4
  else if r.port.flrBusy then 6
  else if r.ten.st == .suspended then 7
  else 0

/-- Bring one function's READY up to its conditions, with READY_CHANGED (R31). -/
def State.refreshFn (s : State) (f : Nat) : State :=
  let r := s.fn f
  let v := s.readyCond f r
  if r.port.ready = v then s
  else (s.setPort f { r.port with ready := v }).fnEvent f evReady

/-- Bring READY of every function up to its conditions. -/
def State.refresh (s : State) : State := s.fns.foldl (fun a e => a.refreshFn e.1) s

/-! ## Queue pairs -/

def qpKey (f q : Nat) : Nat := 4096 * f + q

/-- A queue pair of a function by its local index, 0 to 4,095 (R43); a function has no other. -/
def State.qp (s : State) (f q : Nat) : Qp := if q < 4096 then Tab.get {} s.qm.qps (qpKey f q) else {}

def State.setQp (s : State) (f q : Nat) (p : Qp) : State :=
  if q < 4096 then { s with qm := { s.qm with qps := Tab.put {} s.qm.qps (qpKey f q) p } } else s

/-- Put a queue pair into error state; only the first cause is recorded (R50). -/
def State.qpError (s : State) (f q cause : Nat) : State :=
  let p := s.qp f q
  if p.errCause = 0 then s.setQp f q { p with errCause := cause, fetched := p.fetched } else s

/-- A tenant holds a queue pair. -/
def State.holdsQp (s : State) (f : Nat) : Bool := s.qm.qps.any (fun e => e.1 / 4096 == f)

/-! ## Regions, cells, counters -/

def State.region (s : State) (r : Nat) : Region := s.orc.regions.getD r {}

def State.setRegion (s : State) (r : Nat) (x : Region) : State :=
  { s with orc := { s.orc with regions := s.orc.regions.set r x } }

def classCode : UnitClass → Nat
  | .pip => 1 | .med => 2 | .cip => 3 | .dig => 4

/-- Units of a class in one region, and in the device (R9). -/
def classPerRegion : UnitClass → Nat
  | .pip => 32 | .med => 8 | .cip => 2 | .dig => 4

def classCount (c : UnitClass) : Nat := 4 * classPerRegion c

/-- The region of a unit (R10). -/
def unitRegion (c : UnitClass) (n : Nat) : Nat := n / classPerRegion c

/-- The region of a unit as a region number. -/
def unitRegionF (c : UnitClass) (n : Nat) : Fin 4 := ⟨unitRegion c n % 4, Nat.mod_lt _ (by decide)⟩

def cellKey (c : UnitClass) (n : Nat) : Nat := 256 * classCode c + n

def State.cell (s : State) (c : UnitClass) (n : Nat) : Cell := Tab.get {} s.eng.cells (cellKey c n)

def State.setCell (s : State) (c : UnitClass) (n : Nat) (x : Cell) : State :=
  { s with eng := { s.eng with cells := Tab.put {} s.eng.cells (cellKey c n) x } }

def classAll : List UnitClass := [.pip, .med, .cip, .dig]

/-- The generator of a unit's cluster or pair (R133, R225). -/
def genKey : UnitClass → Nat → Nat
  | .pip, n => n / 8
  | .med, n => 16 + n / 2
  | _, _ => 32

def State.gen (s : State) (k : Nat) : Gen := Tab.get {} s.eng.gens k

def State.setGen (s : State) (k : Nat) (g : Gen) : State :=
  { s with eng := { s.eng with gens := Tab.put {} s.eng.gens k g } }

def State.cluster (s : State) (k : Nat) : Cluster := Tab.get {} s.eng.clusters k

def State.setCluster (s : State) (k : Nat) (c : Cluster) : State :=
  { s with eng := { s.eng with clusters := Tab.put {} s.eng.clusters k c } }

def State.setEng (s : State) (e : Eng) : State := { s with eng := e }

/-! ## SRAM (R198, R199) -/

/-- The code of an area. -/
def areaCode : SramArea → Nat
  | .pipOperand => 0 | .pipStore => 1 | .pulpTier => 2 | .medOperand => 3 | .medStore => 4 | .queueOrchard => 5
  | .laneContext => 6 | .laneStaging => 7 | .management => 8 | .vault => 9

/-- The size of an area in KiB (R198): 64 MiB in all. -/
def areaKib : SramArea → Nat
  | .pipOperand => 20480 | .pipStore => 9216 | .pulpTier => 16384 | .medOperand => 3072 | .medStore => 1024
  | .queueOrchard => 8192 | .laneContext => 1024 | .laneStaging => 3072 | .management => 2048 | .vault => 1024

/-- The 64-bit words of an area, each under the code of R143 (R199). -/
def areaWords (a : SramArea) : Nat := 128 * areaKib a

/-- An area keeps its contents across a region reset, and in P3 (R198). -/
def areaKeptRegion (a : SramArea) : Bool := a != .pipOperand && a != .medOperand
def areaKeptP3 (a : SramArea) : Bool := a != .pipOperand && a != .medOperand && a != .pulpTier && a != .laneContext

/-- The region whose engine a word of operand memory belongs to: a Pip engine has 20,480 words, a Medlar engine 12,288. -/
def areaRegion (a : SramArea) (w : Nat) : Nat := if a = .medOperand then w / 98304 else w / 655360

/-- Where the words that a test port wrote stand: an SRAM area's at its code × 2^24, MRAM, wrappers, protected places and cores
above them. -/
def portKey : PortPlace → Nat
  | .sram a w => areaCode a * 16777216 + w
  | .mram w => 16 * 16777216 + w * 4
  | .wrapper p => 16 * 16777216 + p.val * 4 + 1
  | .protected_ w => 16 * 16777216 + w * 4 + 2
  | .core n => 16 * 16777216 + n * 4 + 3
  | .keys _ => 0

/-- Keep the words of the SRAM areas that a test chooses, and what is no SRAM (R198). -/
def State.keepSram (s : State) (keep : SramArea → Nat → Bool) : State :=
  let areas : List SramArea := [.pipOperand, .pipStore, .pulpTier, .medOperand, .medStore, .queueOrchard, .laneContext, .laneStaging,
    .management, .vault]
  { s with tap := { s.tap with mem := s.tap.mem.filter (fun e =>
    match areas[e.1 / 16777216]? with
    | some a => keep a (e.1 % 16777216)
    | none => true) } }

/-! ## The vault's tables -/

def slotKey (t n : Nat) : Nat := 8192 * t + n

/-- A slot of a tenant, 0 to 8,191 (R56, R290); a tenant has no other. -/
def State.slot (s : State) (t n : Nat) : VSlot := if n < 8192 then Tab.get {} s.vlt.slots (slotKey t n) else {}

def State.setSlot (s : State) (t n : Nat) (x : VSlot) : State :=
  if n < 8192 then { s with vlt := { s.vlt with slots := Tab.put {} s.vlt.slots (slotKey t n) x } } else s

def blobKey (t n : Nat) : Nat := 1048576 * t + n

/-- A key-store blob of a tenant, 0 to 1,048,575 (R56, R296); a tenant has no other. -/
def State.blob (s : State) (t n : Nat) : Blob := if n < 1048576 then Tab.get {} s.vlt.blobs (blobKey t n) else {}

def State.setBlob (s : State) (t n : Nat) (x : Blob) : State :=
  if n < 1048576 then { s with vlt := { s.vlt with blobs := Tab.put {} s.vlt.blobs (blobKey t n) x } } else s

def State.setVlt (s : State) (v : Vlt) : State := { s with vlt := v }

/-! ## The event recorder -/

/-- CRC-8 with polynomial x^8 + x^2 + x + 1 and initial value 0 (R410), one byte. -/
def crcByte : Nat → Byte → Byte
  | 0, c => c
  | n + 1, c => crcByte n (if c.getLsbD 7 then (c <<< 1) ^^^ 0x07 else c <<< 1)

def crc8 (bs : List Byte) : Byte := bs.foldl (fun c b => crcByte 8 (c ^^^ b)) 0

/-- A record header with CHK 0, as a number (R410). -/
def logHeader (typ len rep seq : Nat) : Nat :=
  (typ % 4096) * 2 ^ 52 + (len % 64) * 2 ^ 46 + (rep % 65536) * 2 ^ 30 + (seq % 2 ^ 22) * 2 ^ 8

/-- The stamp (R410, R411). -/
def State.logStamp (s : State) (writer : Nat) : Nat :=
  (s.log.opSec % 2 ^ 32) * 2 ^ 32 + (s.log.pcycle % 2 ^ 24) * 2 ^ 8 + writer

/-- The bytes of a record with its CHK. -/
def logBytes (hdr : Nat) (rest : List Byte) : List Byte :=
  leBytes 8 (hdr + (crc8 (leBytes 8 hdr ++ rest)).toNat) ++ rest

/-- Bytes that remain to the 32 KiB page boundary. -/
def pageLeft (off : Nat) : Nat := 0x8000 - off % 0x8000

/-- Advance LOG_OLDEST past every rolling record that the PAD of `pad` bytes at `off` or the new record of `n` bytes at `at_`
touches (step 1 of R415). -/
def State.logFree (s : State) (off pad at_ n : Nat) : State :=
  let clear := fun (r : BitVec 22 × Nat × Nat) (a k : Nat) => k == 0 || decide (r.2.1 + r.2.2 ≤ a) || decide (a + k ≤ r.2.1)
  let keep := s.log.recs.filter (fun r => clear r off pad && clear r at_ n)
  if keep.length = s.log.recs.length then s
  else { s with log := { s.log with recs := keep, gen := s.log.gen + 1 } }

/-- Write a PAD of `n` bytes at an offset (R410); it consumes no sequence number. -/
def State.logPad (s : State) (off n : Nat) : State :=
  if n = 0 then s
  else { s with log := { s.log with
    mem := Tab.putBytes s.log.mem off (logBytes (logHeader 0 (n / 8) 0 s.log.nextSeq.toNat) []) } }

/-- Where the next rolling record of `n` bytes goes: after a PAD to the page boundary where it does not fit. -/
def rollPlace (off n : Nat) : Nat × Nat :=
  let pad := if n ≤ pageLeft off then 0 else pageLeft off
  let at_ := off + pad
  (pad, if at_ = 0x100000 then 0x40000 else at_)

/-- Write one record at an offset and make it the newest (steps 2 to 4 of R415). -/
def State.logPut (s : State) (off typ : Nat) (body : List Byte) (cmp : List Nat) (writer : Nat)
    (rolling : Bool) : State :=
  let rest := leBytes 8 (s.logStamp writer) ++ body
  let n := 8 + rest.length
  { s with log := { s.log with
    mem := Tab.putBytes s.log.mem off (logBytes (logHeader typ (n / 8) 0 s.log.nextSeq.toNat) rest)
    newestSeq := s.log.nextSeq, newestOff := off, nextSeq := s.log.nextSeq + 1
    newestTyp := some typ, newestBody := cmp, newestRepeat := 0, newestCycle := s.log.pcycle
    newestLatch := if typ = 0x021 then some (off, cmp) else s.log.newestLatch
    recs := if rolling then s.log.recs ++ [(s.log.nextSeq, off, n)] else s.log.recs
    rollOff := if rolling then (if off + n = 0x100000 then 0x40000 else off + n) else s.log.rollOff
    foundOff := if rolling then s.log.foundOff else off + n } }

/-- A record into the rolling area (R409, R415). -/
def State.logRoll (s : State) (typ : Nat) (body : List Byte) (cmp : List Nat) (writer : Nat) : State :=
  let n := 16 + body.length
  let p := rollPlace s.log.rollOff n
  ((s.logFree s.log.rollOff p.1 p.2 n).logPad s.log.rollOff p.1).logPut p.2 typ body cmp writer true

/-- A record into the area being written; the founding area closes when one does not fit (R416). -/
def State.logPlace (s : State) (typ : Nat) (body : List Byte) (cmp : List Nat) (writer : Nat) : State :=
  let n := 16 + body.length
  if s.log.foundOpen && !s.log.foundClosed then
    let off := s.log.foundOff
    let pad := if n ≤ pageLeft off then 0 else pageLeft off
    if off + pad + n ≤ 0x40000 then
      (s.logPad off pad).logPut (off + pad) typ body cmp writer false
    else
      let s1 := s.logPad off (0x40000 - off)
      let s2 := { s1 with log := { s1.log with foundOpen := false, foundClosed := true } }
      s2.logRoll typ body cmp writer
  else s.logRoll typ body cmp writer

/-- Rewrite the newest header with one repeat more (R412). -/
def State.logRepeat (s : State) : State :=
  let off := s.log.newestOff
  let h := Tab.leNat s.log.mem off 8
  let len := bitsOf h 51 46
  let rest := leBytes (8 * len - 8) (Tab.leNat s.log.mem (off + 8) (8 * len - 8))
  let hdr := logHeader (bitsOf h 63 52) len (s.log.newestRepeat + 1) (bitsOf h 29 8)
  { s with log := { s.log with
    mem := Tab.putBytes s.log.mem off (leBytes 8 (hdr + (crc8 (leBytes 8 hdr ++ rest)).toNat))
    newestRepeat := s.log.newestRepeat + 1 } }

/-- The new record would be counted as a repeat of the newest (R412). -/
def State.logIsRepeat (s : State) (typ : Nat) (cmp : List Nat) : Bool :=
  s.log.newestTyp == some typ && s.log.newestBody == cmp && s.log.newestCycle == s.log.pcycle
    && decide (s.log.newestRepeat < 65535)
    && (decide (s.log.newestOff < 0x40000) == (s.log.foundOpen && !s.log.foundClosed))

/-- Start a new operating second in the rate limit, writing the DROPPED record it owes (R414). -/
def State.logSecond (s : State) : State :=
  if s.log.secNow = s.log.opSec then s
  else
    let s1 := { s with log := { s.log with secNow := s.log.opSec, inSec := 0, dropIn := 0 } }
    if s.log.dropIn = 0 then s1
    else
      let s2 := s1.logPlace 0x002 (leBytes 4 s.log.dropIn ++ leBytes 4 s.log.dropSec) [s.log.dropIn, s.log.dropSec] 0
      { s2 with log := { s2.log with inSec := 1 } }

/-- A record: written, counted as a repeat, or dropped over the rate limit (R412, R414, R415). In SCRAPPED
nothing is recorded (R416). `cmp` is the body without its varying fields; bodies are padded to 8 bytes. -/
def State.logRecord (s : State) (typ : Nat) (body : List Byte) (cmp : List Nat) (writer : Nat) : State :=
  if s.scrapped then s
  else if s.logIsRepeat typ cmp then s.logRepeat
  else
    let s1 := s.logSecond
    if 4096 ≤ s1.log.inSec && !(typ == 0x010 || typ == 0x020) then
      { s1 with log := { s1.log with dropped := satSucc s1.log.dropped, dropIn := s1.log.dropIn + 1
                                     dropSec := if s1.log.dropIn = 0 then s1.log.opSec else s1.log.dropSec } }
    else
      let s2 := s1.logPlace typ body cmp writer
      { s2 with log := { s2.log with inSec := s2.log.inSec + 1 } }

/-- A record whose body is 8 bytes, given as one number. -/
def State.logWord (s : State) (typ v writer : Nat) : State := s.logRecord typ (leBytes 8 v) [v] writer

/-! ## Policies -/

/-- A fault policy takes effect (R405): 1 source, 2 grace, 3 quiet, 4 recovery limit. -/
def Flt.applyPolicy (f : Flt) (l : List Nat) : Flt :=
  match l with
  | [1, n, a, c] =>
    let x : SrcRec := Tab.get {} f.srcs n
    { f with srcs := Tab.put {} f.srcs n { x with action := some a, cap := some c } }
  | [2, b, r, c] => { f with graceBlk := b, graceReg := r, graceChip := c }
  | [3, q] => { f with quiet := q }
  | [4, n, w] => { f with recCount := n, recWindow := w }
  | _ => f

/-- A power policy takes effect (R430): 1 deepest state, 2 idle times, 3 spread, which comes into force at the
next warm or cold reset (R432). -/
def State.applyPower (s : State) (l : List Nat) : State :=
  match l with
  | [1, d] => { s with pwr := { s.pwr with deepest := d } }
  | [2, a, b, c] => { s with pwr := { s.pwr with idleP2 := a, idleP3 := b, idleP4 := c } }
  | [3, v] => { s with nv := { s.nv with spread := v == 1 } }
  | _ => s

/-- The policies set since the last boundary take effect. -/
def State.applyPolicies (s : State) : State :=
  let s1 := { s with flt := { s.flt.policyNext.foldl Flt.applyPolicy s.flt with policyNext := [] } }
  s1.pwr.policyNext.foldl State.applyPower { s1 with pwr := { s1.pwr with policyNext := [] } }

end Sys2Proof.Machine
end

