-- ==== Sys2Proof/Machine/Operands.lean ====
section
/-! DEFINITION. The operand forms: descriptors, step entries and selectors (R52 to R60), key handles (R56),
attribute words (R292, R293) and the key a handle names. -/

namespace Sys2Proof.Machine

/-! ## Host memory as the device reads it (R51, R53) -/

/-- The number whose bytes stand in a list, least significant first. -/
def leNum : List Byte → Nat
  | [] => 0
  | b :: t => b.toNat + 256 * leNum t

/-- Cut a list into pieces of `n`; a rest shorter than `n` is dropped. `fuel` bounds the pieces. -/
def pieces {α : Type} (n : Nat) : Nat → List α → List (List α)
  | 0, _ => []
  | fuel + 1, l => if l.length < n then [] else l.take n :: pieces n fuel (l.drop n)

/-- The 64-byte entries of a submission ring, each as eight little-endian words. -/
def hostEntries (bs : List Byte) : List (List QWord) :=
  (pieces 64 (bs.length / 64) bs).map (fun e => (pieces 8 8 e).map (fun w => BitVec.ofNat 64 (leNum w)))

/-- The 16-byte entries of a fragment list: ADDR, LEN, TYPE at bits 31:24 of bytes 12 to 15, and the reserved bits below. -/
def fragEntries (bs : List Byte) : List FragEntry :=
  (pieces 16 (bs.length / 16) bs).map (fun e =>
    { addr := BitVec.ofNat 64 (leNum (e.take 8)), len := BitVec.ofNat 32 (leNum ((e.drop 8).take 4))
      typ := e.getD 15 0, resv := BitVec.ofNat 24 (leNum ((e.drop 12).take 3)) })

/-! ## Descriptors -/

/-- The field `[hi:lo]` of a descriptor word. -/
def qf (e : List QWord) (n hi lo : Nat) : Nat := bitsOf (e.getD n 0).toNat hi lo

def kindOf (e : List QWord) : Nat := qf e 0 39 36

/-- The number of steps a punnet header gives (R57). -/
def stepsOf (e : List QWord) : Nat := qf e 2 4 0

/-- The layout of R52. -/
def descOf (e : List QWord) : Desc :=
  { opcode := qf e 0 63 48, param := qf e 0 47 40, kind := kindOf e, prio := qf e 0 35 33, bulk := qf e 0 32 32 == 1
    tag := BitVec.ofNat 32 (qf e 0 31 0), flow := BitVec.ofNat 32 (qf e 1 63 32), deadline := qf e 1 31 0
    key := e.getD 2 0, key2 := e.getD 3 0, inAddr := e.getD 4 0, inLen := qf e 5 63 32, inFrags := qf e 5 31 16
    outFrags := qf e 5 15 0, outAddr := e.getD 6 0, outLen := qf e 7 63 32, opArg := qf e 7 31 0 }

/-- The punnet fields of a step entry (R59): QW0 [31:0] and the selectors of QW1. -/
def linkOf (e : List QWord) : Link :=
  { guardMask := qf e 0 31 16, step := qf e 0 15 11, outMask := qf e 0 7 0
    srcs := [qf e 1 63 48, qf e 1 47 32, qf e 1 31 16], keysrc := qf e 1 15 0 }

/-- A step entry as a descriptor: it has no class, priority, tag, flow or deadline of its own (R59). -/
def stepDescOf (e : List QWord) : Desc :=
  { descOf e with prio := 0, bulk := false, tag := 0, flow := 0, deadline := 0 }

/-- Reserved bits of a punnet header are 0 (R57). -/
def headerClean (e : List QWord) : Bool :=
  qf e 0 63 48 == 0 && qf e 0 47 40 == 0 && qf e 0 32 32 == 0 && (e.getD 2 0).toNat / 32 == 0
    && (e.drop 3).all (· == 0)

/-- Reserved bits of a step entry are 0 (R59, R60). -/
def stepClean (e : List QWord) : Bool :=
  qf e 0 35 32 == 0 && qf e 0 10 8 == 0
    && [qf e 1 63 48, qf e 1 47 32, qf e 1 31 16, qf e 1 15 0].all (· % 64 == 0)

/-! ## Selectors (R60) -/

def selValid (x : Nat) : Bool := bitsOf x 15 15 == 1
def selHost (x : Nat) : Bool := bitsOf x 14 14 == 1
def selFrom (x : Nat) : Nat := bitsOf x 13 9
def selOut (x : Nat) : Nat := bitsOf x 8 6

/-- The selectors in use: up to the first with VALID = 0. -/
def liveSrcs (l : Link) : List Nat := l.srcs.takeWhile selValid

/-- The internal values a step names, as (step, output). -/
def namedValues (l : Link) : List (Nat × Nat) :=
  let f := fun x => (selFrom x, selOut x)
  ((liveSrcs l).filter (!selHost ·)).map f ++ (if selValid l.keysrc && !selHost l.keysrc then [f l.keysrc] else [])

/-- The steps of a guard mask. -/
def guardsOf (l : Link) : List Nat :=
  ((List.range 16).filter (fun j => l.guardMask.testBit j)).map (· + 1)

/-- Every step that a step waits for through a value, its key or a guard. -/
def depsOf (l : Link) : List Nat := (namedValues l).map (·.1) ++ guardsOf l

/-! ## Key handles (R56) -/

def noKey : QWord := BitVec.allOnes 64
def hTenant (h : QWord) : Nat := bitsOf h.toNat 63 54
def hLoc (h : QWord) : Nat := bitsOf h.toNat 53 52
def hIndex (h : QWord) : Nat := bitsOf h.toNat 51 0

/-- A handle with LOC 3 or an INDEX outside the range of its LOC is malformed. -/
def hBad (h : QWord) : Bool :=
  hLoc h == 3 || (hLoc h == 0 && decide (8192 ≤ hIndex h)) || (hLoc h == 1 && decide (1048576 ≤ hIndex h))

/-! ## Attribute words (R292, R293) -/

def aType (a : QWord) : Nat := bitsOf a.toNat 63 56
def aParam (a : QWord) : Nat := bitsOf a.toNat 55 48
def aUsage (a : QWord) : Nat := bitsOf a.toNat 47 32
def aSignDet (a : QWord) : Nat := bitsOf a.toNat 31 30
def aPrehash (a : QWord) : Bool := bitsOf a.toNat 29 29 == 1
def aExportable (a : QWord) : Bool := bitsOf a.toNat 28 28 == 1
def aShared (a : QWord) : Bool := bitsOf a.toNat 27 27 == 1
def aCounted (a : QWord) : Bool := bitsOf a.toNat 26 26 == 1
def aSecret (a : QWord) : Bool := bitsOf a.toNat 25 25 == 1
def aAuthority (a : QWord) : Bool := bitsOf a.toNat 24 24 == 1

/-- The attribute word of a type, PARAM and usage, every policy bit 0. -/
def attrWord (typ param usage : Nat) (secret : Bool) : QWord :=
  BitVec.ofNat 64 (typ * 2 ^ 56 + param * 2 ^ 48 + usage * 2 ^ 32 + flag secret * 2 ^ 25)

/-- Usage bits of R293. -/
def uEncrypt : Nat := 0x0001
def uDecrypt : Nat := 0x0002
def uWrap : Nat := 0x0004
def uUnwrap : Nat := 0x0008
def uSign : Nat := 0x0010
def uVerify : Nat := 0x0020
def uEncaps : Nat := 0x0040
def uDecaps : Nat := 0x0080
def uMac : Nat := 0x0100
def uDerive : Nat := 0x0200
def uPin : Nat := 0x0400
def uEmv : Nat := 0x0800
def uRaw : Nat := 0x1000
def uImport : Nat := 0x2000

/-- The usage word holds every bit of a mask. -/
def hasAll (usage mask : Nat) : Bool := (usage &&& mask) == mask

/-- The public key types of R293. -/
def publicTypes : List Nat := [0x20, 0x22, 0x24, 0x25, 0x27, 0x29, 0x30, 0x32, 0x35, 0x37]

/-- The private and secret key types of R293; EC_CURVE is neither. -/
def secretTypes : List Nat :=
  [0x01, 0x02, 0x03, 0x04, 0x05, 0x06, 0x07, 0x10, 0x11, 0x12, 0x13, 0x14, 0x15, 0x16,
   0x21, 0x23, 0x26, 0x28, 0x2A, 0x31, 0x33, 0x36, 0x38]

/-- PARAM is a code that the key's type has in the opcode tables (R292, R293); no private SLH-DSA key of a SHAKE set is among them
(R177). Types for which the tables give no code take any. -/
def paramOk (t p : Nat) : Bool :=
  let is := fun (lo hi : Nat) => decide (lo ≤ p) && decide (p ≤ hi)
  if t = 0x01 ∨ t = 0x12 ∨ t = 0x13 ∨ t = 0x14 then is 1 3
  else if t = 0x02 then p == 1 || p == 3
  else if t = 0x16 then p == 0x01 || p == 0x10
  else if 0x20 ≤ t ∧ t ≤ 0x23 then is 2 4
  else if t = 0x24 then is 9 10
  else if t = 0x25 then is 1 6 || is 9 14
  else if t = 0x26 then is 1 6
  else if t = 0x27 ∨ t = 0x28 then is 1 3
  else if t = 0x29 ∨ t = 0x2A then is 1 2
  else if t = 0x30 ∨ t = 0x31 then is 15 255
  else if t = 0x32 ∨ t = 0x33 then is 1 7 || is 0x42 0x4F
  else if t = 0x34 then is 0x42 0x4F
  else if t = 0x35 ∨ t = 0x36 then is 0x20 0x21
  else if t = 0x37 ∨ t = 0x38 then is 0x30 0x31
  else true

/-- The rules of R294 on a key of a tenant and slot, its PARAM among the codes of its type (DEDUCED, assumption 50). -/
def attrOk (tenant slot : Nat) (a : QWord) : Bool :=
  let t := aType a
  let u := aUsage a
  (publicTypes.contains t || secretTypes.contains t || t == 0x34)
    && (u &&& 0xC000 == 0) && aSignDet a != 3 && a.toNat % 2 ^ 24 == 0
    && (if u &&& (uWrap ||| uUnwrap) != 0 then
          ((t == 0x01 && aParam a == 0x03) || t == 0x16) && (u &&& 0xFFF3 == 0) else true)
    && (if publicTypes.contains t then u &&& (0xFFFF - (uVerify + uEncaps + uEncrypt)) == 0 else true)
    && (if t == 0x30 || t == 0x31 then
          (if hasAll u uSign then u == uSign + uRaw || u &&& (uDecrypt + uRaw) == 0 else true) else true)
    && (if u &&& uImport != 0 then slot == 0 else true)
    && (if aAuthority a then slot == 1 || slot == 2 else true)
    && (if aShared a then publicTypes.contains t && tenant == 0 else true)
    && paramOk t (aParam a)

/-- The public counterpart of a private key type (R161). -/
def pubType (t : Nat) : Nat :=
  if t == 0x28 || t == 0x21 || t == 0x23 || t == 0x26 || t == 0x2A || t == 0x31 || t == 0x33 || t == 0x36 || t == 0x38
  then t - 1 else t

/-- The attribute word of the public key kept beside a private key (R161). -/
def pubAttr (a : QWord) : QWord :=
  let u := aUsage a
  let v := (if hasAll u uSign then uVerify else 0) + (if hasAll u uDecaps then uEncaps else 0)
    + (if hasAll u uDecrypt then uEncrypt else 0)
  BitVec.ofNat 64 (pubType (aType a) * 2 ^ 56 + aParam a * 2 ^ 48 + v * 2 ^ 32 + flag (aPrehash a) * 2 ^ 29)

/-! ## The key a handle names -/

/-- What a lookup of a handle gives: a key's attribute word and length; a host-held blob, known only after dispatch (R297);
or the status that ends the item. -/
inductive KeyFound where
  | attr (a : QWord) (len : Nat)
  | hostHeld
  | bad (st : Status) (why : Reason)
deriving DecidableEq, Repr

/-- The attribute word of a key of tenant 0. -/
def State.sharedAttr (s : State) (h : QWord) : QWord :=
  if hLoc h = 0 then (s.slot 0 (hIndex h)).attr else (s.blob 0 (hIndex h)).attr

/-- A key of the PF published in the shared pool: it is there and still carries SHARED_PUBLIC (R213). -/
def State.isShared (s : State) (h : QWord) : Bool :=
  s.pulp.shared.any (fun x => x.handle == h)
    && aShared (s.sharedAttr h)

/-- The attribute word an opcode reads from a stored key: the public word beside a private key when the opcode
takes a public key (R161). -/
def readAttr (wantPub : Bool) (attr pub : QWord) : QWord :=
  if wantPub && !(publicTypes.contains (aType attr)) && pub != 0 then pub else attr

/-- The key a handle names for use by an item of a tenant (R56, R290, R291, R296). `shareable` says that the
opcode may use a key of the shared pool. A handle that an earlier step reserved as its destination gives that
step's word, `pending`. -/
def State.findKey (s : State) (t : Nat) (h : QWord) (wantPub shareable : Bool) (pending : Option (QWord × Nat)) : KeyFound :=
  if h == noKey then .bad .keyAbsent .none
  else if hBad h then .bad .badDescriptor .badHandle
  else if hTenant h != t && !(shareable && hTenant h == 0 && s.isShared h) then .bad .keyTenant .none
  else if hLoc h == 2 then .hostHeld
  else if hLoc h == 0 then
    if (s.fn (hTenant h)).ten.slots ≤ hIndex h then .bad .keyAbsent .none
    else if hIndex h = 0 then .bad .keyUsage .none
    else match pending with
      | some (a, n) => .attr (readAttr wantPub a (pubAttr a)) n
      | none =>
        let k := s.slot (hTenant h) (hIndex h)
        if k.occ then .attr (readAttr wantPub k.attr k.pub) k.len else .bad .keyAbsent .none
  else match pending with
    | some (a, n) => .attr (readAttr wantPub a (pubAttr a)) n
    | none =>
      let k := s.blob (hTenant h) (hIndex h)
      if k.occ then .attr (readAttr wantPub k.attr k.pub) k.len else .bad .keyAbsent .none

/-- Bytes that a key-store blob counts against its quota (R296, R297). -/
def blobBytes (len : Nat) : Nat := len + 48

/-- Bytes of the key store that a tenant's blobs occupy, reservations included (R296). -/
def State.ksUsed (s : State) (t : Nat) : Nat :=
  (s.vlt.blobs.filter (fun e => e.1 / 1048576 == t)).foldl (fun n e => n + blobBytes e.2.len) 0

/-- The slot cannot take a new key: it is occupied or reserved, or broken and not yet deleted (R287, R304). -/
def VSlot.taken (k : VSlot) : Bool := k.occ || k.reserved || k.broken

/-- The status a destination handle ends the item with, if any (R56, R161, R290, R291, R304). `loc` is the LOC
that DEST asks for, `len` the length of the key. -/
def State.destBad (s : State) (t : Nat) (h : QWord) (loc len : Nat) : Option (Status × Reason) :=
  if h == noKey then some (.keyUsage, .none)
  else if hBad h then some (.badDescriptor, .badHandle)
  else if hTenant h != t then some (.keyTenant, .none)
  else if hLoc h != loc then some (.keyUsage, .none)
  else if loc = 0 then
    if (s.fn t).ten.slots ≤ hIndex h || hIndex h ≤ 2 then some (.keyUsage, .none)
    else if (s.slot t (hIndex h)).taken then some (.keyUsage, .none)
    else none
  else if (s.blob t (hIndex h)).occ || (s.blob t (hIndex h)).reserved then some (.keyUsage, .none)
  else if (s.fn t).ten.ksMib * 1048576 < s.ksUsed t + blobBytes len then some (.keyUsage, .none)
  else none

/-- The status a wrapping-key handle ends the item with, if any (R160, R294): a slot of the tenant with USE_WRAP. -/
def State.wrapBad (s : State) (t : Nat) (h : QWord) : Option (Status × Reason) :=
  if h == noKey then some (.badDescriptor, .badSource)
  else match s.findKey t h false false none with
    | .bad st why => some (st, why)
    | .hostHeld => some (.keyUsage, .none)
    | .attr a _ => if hLoc h == 0 && hasAll (aUsage a) uWrap then none else some (.keyUsage, .none)

end Sys2Proof.Machine
end

