-- ==== Sys2Proof/Machine/OpTable.lean ====
section
/-! DEFINITION. The dispatch table of firmware 2.4 (R14, R73): which opcodes and parameter sets exist, their unit,
envelope, attributes and outputs (R154 to R156, R176 to R178, R231, R248, R265), their OP_ARG fields and input
lengths (R158, R179, R186, R232 to R234, R249, R267 to R274), and the keys they take (R163, R180, R187, R188,
R250, R475, R268 to R273). -/

namespace Sys2Proof.Machine

/-! ## Small tables -/

def pick (l : List Nat) (i : Nat) : Nat := l.getD i 0

/-- A value of a parameter set lies from `lo` to `hi`. -/
def within (x lo hi : Nat) : Bool := decide (lo ≤ x) && decide (x ≤ hi)

/-- The variant and the set code of a signing PARAM (R155). -/
def variantOf (param : Nat) : Nat := param / 16
def setOf (param : Nat) : Nat := param % 16

/-- PH(M) lengths (R158); 0 for a code outside the table. -/
def phLen (ph : Nat) : Nat := pick [0, 32, 48, 64, 32, 64, 32, 64] ph

/-- Lengths of R157. -/
def kemEk (i : Nat) : Nat := pick [800, 1184, 1568] i
def kemDk (i : Nat) : Nat := pick [1632, 2400, 3168] i
def kemCt (i : Nat) : Nat := pick [768, 1088, 1568] i
def dsaPk (i : Nat) : Nat := pick [1312, 1952, 2592] i
def dsaSk (i : Nat) : Nat := pick [2560, 4032, 4896] i
def dsaSig (i : Nat) : Nat := pick [2420, 3309, 4627] i

/-- SLH-DSA: the index 0 to 5 of a set code, n and the lengths of R179. -/
def slhIdx (set : Nat) : Nat := if set < 8 then set - 1 else set - 9
def slhN (set : Nat) : Nat := pick [16, 16, 24, 24, 32, 32] (slhIdx set)
def slhSig (set : Nat) : Nat := pick [7856, 17088, 16224, 35664, 29792, 49856] (slhIdx set)

/-- HQC (R185) and Classic McEliece (R187) lengths by PARAM - 1. -/
def hqcPk (i : Nat) : Nat := pick [2249, 4522, 7245] i
def hqcSk (i : Nat) : Nat := pick [2305, 4586, 7317] i
def hqcCt (i : Nat) : Nat := pick [4433, 8978, 14421] i
def hqcM (i : Nat) : Nat := pick [16, 24, 32] i
def mcePk (i : Nat) : Nat := pick [261120, 1044992] i
def mceSk (i : Nat) : Nat := pick [6492, 13932] i
def mceCt (i : Nat) : Nat := pick [96, 208] i

/-- RSA: the modulus length k of a PARAM W - 1 (R232). -/
def rsaK (param : Nat) : Nat := 8 * (param + 1)

/-- A curve code of R231 names a supplied curve. -/
def isSupplied (param : Nat) : Bool := within param 0x42 0x4F
def isCurve (param : Nat) : Bool := within param 1 7 || isSupplied param

/-- The field length of a curve code (R233). -/
def fieldLen (param : Nat) : Nat :=
  if isSupplied param then 8 * (param - 0x3F) else pick [0, 32, 48, 66, 32, 32, 48, 64] param

/-- The length of a curve block (R234). -/
def curveBlock (param : Nat) : Nat := 48 * (param - 0x3F) + 8

/-- Key and signature lengths of EdDSA and of X25519 and X448 by the low bit of PARAM (R233). -/
def edKey (param : Nat) : Nat := if param % 2 = 0 then 32 else 57
def edSig (param : Nat) : Nat := if param % 2 = 0 then 64 else 114
def xKey (param : Nat) : Nat := if param % 2 = 0 then 32 else 56

/-- Digest lengths by the digest PARAM codes of R248. -/
def digestLen (param : Nat) : Nat := pick [0, 28, 32, 48, 64] (param % 16)

/-- The envelope of an RSA modulus of W words: that of the next larger listed size (R239). -/
def rsaEnv (w : Nat) : Nat :=
  if w ≤ 16 then 20 else if w ≤ 24 then 60 else if w ≤ 32 then 140 else if w ≤ 48 then 400
  else if w ≤ 64 then 1000 else if w ≤ 128 then 7000 else 52000

/-- The envelope of a supplied curve of W words (R241). -/
def suppliedEnv (w : Nat) : Nat :=
  if w ≤ 4 then 24 else if w ≤ 6 then 80 else if w ≤ 8 then 190 else if w ≤ 12 then 640 else 1500

/-- EC envelopes of R240: key generation, signing, ECDH. -/
def ecEnv (which param : Nat) : Nat :=
  if isSupplied param then suppliedEnv (param - 0x3F)
  else if which = 0 then pick [0, 10, 30, 90, 10, 12, 38, 90] param
  else if which = 1 then pick [0, 12, 38, 110, 12, 16, 48, 115] param
  else pick [0, 20, 62, 180, 20, 26, 80, 185] param

/-! ## Which pairs have an entry -/

/-- The pair of OPCODE and PARAM has an entry. -/
def opExists (op param : Nat) : Bool :=
  let v := variantOf param
  let t := setOf param
  if op = 0x0101 ∨ op = 0x0102 ∨ op = 0x0103 ∨ op = 0x0104 ∨ op = 0x0105 ∨ op = 0x0111 ∨ op = 0x0114 then
    within param 2 4
  else if op = 0x0112 then within v 0 3 && within t 2 4
  else if op = 0x0113 ∨ op = 0x0115 then (v == 0 || v == 2) && within t 2 4
  else if op = 0x0121 then within param 9 10
  else if op = 0x0131 ∨ op = 0x0134 then within param 1 6
  else if op = 0x0132 then within v 0 3 && within t 1 6
  else if op = 0x0133 then (v == 0 || v == 2) && (within t 1 6 || within t 9 14)
  else if op = 0x0135 then (v == 0 || v == 2) && within t 1 6
  else if 0x0141 ≤ op ∧ op ≤ 0x0145 then within param 1 3
  else if 0x0151 ≤ op ∧ op ≤ 0x0156 then within param 1 2
  else if op = 0x0201 ∨ op = 0x0202 then within param 15 255
  else if op = 0x0203 then param == 0x1F || param == 0x2F || param == 0x3F
  else if 0x0211 ≤ op ∧ op ≤ 0x0214 then isCurve param
  else if 0x0221 ≤ op ∧ op ≤ 0x0223 then within param 0x20 0x21
  else if op = 0x0231 ∨ op = 0x0232 then within param 0x30 0x31
  else if op = 0x0241 then isSupplied param
  else if op = 0x0301 then within param 1 3 || within param 0x81 0x83
  else if op = 0x0302 ∨ op = 0x0307 ∨ op = 0x0308 ∨ op = 0x0309 then within param 1 3
  else if op = 0x0303 then param == 0x10 || param == 0x90
  else if op = 0x0304 then param == 0x10
  else if op = 0x0305 ∨ op = 0x0306 then param == 1 || param == 3
  else if op = 0x0311 then within param 1 4
  else if op = 0x0312 then within param 0x11 0x14
  else if op = 0x0313 then within param 0x21 0x22
  else if op = 0x0321 then within param 2 4 || param == 0x12 || param == 0x14
  else if op = 0x0322 then within param 0x31 0x32
  else if op = 0x0401 then
    [0, 1, 3, 4].contains v && [0, 1, 3, 4].contains t && !(v != 1 && t == 1)
  else if op = 0x0411 then within param 1 7 || param == 0x81 || param == 0x84 || param == 0x87
  else if op = 0x0421 then param == 0x01 || param == 0x81
  else if op = 0x0422 then param == 0x11 || param == 0x12 || param == 0x91 || param == 0x92
  else if op = 0x0431 then param == 1
  else if op = 0x0441 then within param 1 2
  else if op = 0x0442 then within param 1 3
  else false

/-- Opcodes marked "test" (R154, R176). -/
def isTestOp (op : Nat) : Bool :=
  [0x0104, 0x0105, 0x0114, 0x0115, 0x0134, 0x0135, 0x0144, 0x0145, 0x0154, 0x0155].contains op

/-- Opcodes that allow only the transaction class (R265). -/
def transactionOnly (op : Nat) : Bool := [0x0401, 0x0411, 0x0421, 0x0422, 0x0431].contains op

/-- Key generations, which carry USAGE and DEST (R158, R161). -/
def isKeygen (op : Nat) : Bool :=
  [0x0101, 0x0104, 0x0111, 0x0114, 0x0131, 0x0134, 0x0141, 0x0144, 0x0151, 0x0154, 0x0203, 0x0211, 0x0221,
   0x0231].contains op

/-- Opcodes with a DEST field: key generation and key-block import (R161, R274). -/
def hasDest (op : Nat) : Bool := isKeygen op || op == 0x0431

/-- DEST (R161). -/
def destOf (arg : Nat) : Nat := arg % 4

/-- Classic McEliece key generation, which also writes pk to a key-store blob (R187). -/
def isMceGen (op : Nat) : Bool := op == 0x0151 || op == 0x0154

def unitOf (op : Nat) : UnitClass :=
  if op < 0x0200 then .pip else if op < 0x0300 then .med
  else if 0x0311 ≤ op ∧ op ≤ 0x0322 then .dig else .cip

/-- AEAD decryption (R256). -/
def isAeadDec (op : Nat) : Bool := op == 0x0302 || op == 0x0304

/-- The MAC opcodes of R250. -/
def isMac (op : Nat) : Bool := [0x0321, 0x0322, 0x0441, 0x0442].contains op

/-- Unkeyed digests (R248). -/
def isDigest (op : Nat) : Bool := [0x0311, 0x0312, 0x0313].contains op

def argCompare (arg : Nat) : Bool := arg.testBit 30
def argDukpt (op arg : Nat) : Bool :=
  if op = 0x0401 then arg.testBit 0 else (op == 0x0441 || op == 0x0442) && arg.testBit 29

/-- The AES working-key size selector OP_ARG [25:24] (R270). -/
def argSize (arg : Nat) : Nat := bitsOf arg 25 24

/-- OP_ARG bits that the opcode defines for its PARAM and variant (R52). -/
def argMask (op param arg : Nat) : Nat :=
  if isKeygen op then 0xFFFF0003
  else if [0x0112, 0x0113, 0x0115, 0x0132, 0x0133, 0x0135].contains op then 0xFFFF
  else if op = 0x0121 ∨ op = 0x0201 ∨ op = 0x0202 then 0xFFF
  else if op = 0x0212 then 0x300
  else if op = 0x0222 ∨ op = 0x0223 then 0x3FF
  else if 0x0301 ≤ op ∧ op ≤ 0x0304 then 0xFFFFFF
  else if op = 0x0305 ∨ op = 0x0306 then 0x1F
  else if op = 0x0311 ∨ op = 0x0312 then 0x40000000
  else if op = 0x0313 then 0x4001FFFF
  else if op = 0x0321 then 0x400000FF
  else if op = 0x0322 then 0x40FFFFFF
  else if op = 0x0401 then if arg.testBit 0 && variantOf param == 4 then 0x03000001 else 0x1
  else if op = 0x0411 then if param < 0x80 then 0x03000000 else 0
  else if op = 0x0431 then 0x3
  else if op = 0x0441 then 0x600000FF
  else if op = 0x0442 then if arg.testBit 29 then 0x630000FF else 0x600000FF
  else 0

/-- A reserved OP_ARG bit is set, or DEST is the reserved value (R52, R161). -/
def argReserved (op param arg : Nat) : Bool :=
  (arg &&& argMask op param arg) != arg || (hasDest op && destOf arg == 3)

/-! ## Input lengths -/

/-- Signing input after `p` leading bytes: ctx and M or PH(M) (R158). -/
def signLen (p param arg len : Nat) : Bool :=
  let ctx := arg % 256
  let ph := arg / 256
  let body := len - (p + ctx)
  decide (p + ctx ≤ len)
    && (if variantOf param < 2 then ph == 0 && decide (body ≤ 65536) else within ph 1 7 && body == phLen ph)

/-- Verification input after `p` leading bytes: ctx, the signature and M or PH(M) (R158). -/
def verifyLen (p sig param arg len : Nat) : Bool :=
  let ctx := arg % 256
  let ph := arg / 256
  let body := len - (p + ctx + sig)
  decide (p + ctx + sig ≤ len)
    && (if variantOf param < 2 then ph == 0 && decide (body ≤ 1048576) else within ph 1 7 && body == phLen ph)

/-- A MAC length and the input it leaves (R249, R273). -/
def macLen (pre t len : Nat) (compare : Bool) : Bool := decide (pre + (if compare then t else 0) ≤ len)

/-- The KSN length of a DUKPT derivation (R270). -/
def ksnLen (tdes : Bool) : Nat := if tdes then 10 else 12

/-- A supplied length, count or selector is one the opcode lists (R52, R158, R171, R179, R195, R232 to R234,
R237, R249, R258, R267 to R273, R277). `keyed` says that KEY_HANDLE or KEYSRC names a key. -/
def fieldOk (op param arg len : Nat) (keyed : Bool) : Bool :=
  let i := param - 2
  let j := param - 1
  let t := setOf param
  let f := fieldLen param
  if op = 0x0101 ∨ op = 0x0111 ∨ op = 0x0131 ∨ op = 0x0141 ∨ op = 0x0151 ∨ op = 0x0203 ∨ op = 0x0211
      ∨ op = 0x0221 ∨ op = 0x0231 ∨ op = 0x0152 ∨ op = 0x0156 then len == 0
  else if op = 0x0104 then len == 64
  else if op = 0x0114 then len == 32
  else if op = 0x0102 then len == (if keyed then 0 else kemEk i)
  else if op = 0x0105 then len == 32 + (if keyed then 0 else kemEk i)
  else if op = 0x0103 then len == kemCt i
  else if op = 0x0112 then signLen 0 param arg len
  else if op = 0x0115 then signLen 32 param arg len
  else if op = 0x0113 then verifyLen (if keyed then 0 else dsaPk (t - 2)) (dsaSig (t - 2)) param arg len
  else if op = 0x0121 then
    let pk := if keyed then 0 else (if param = 9 then 897 else 1793)
    within arg 42 (if param = 9 then 666 else 1280) && decide (pk + arg ≤ len)
      && decide (len - (pk + arg) ≤ 1048576)
  else if op = 0x0134 then len == 3 * slhN t
  else if op = 0x0132 then signLen 0 param arg len
  else if op = 0x0135 then signLen (slhN t) param arg len
  else if op = 0x0133 then verifyLen (if keyed then 0 else 2 * slhN t) (slhSig t) param arg len
  else if op = 0x0144 then len == 80 + hqcM j
  else if op = 0x0142 then len == (if keyed then 0 else hqcPk j)
  else if op = 0x0145 then len == hqcM j + 16 + (if keyed then 0 else hqcPk j)
  else if op = 0x0143 then len == hqcCt j
  else if op = 0x0153 then len == mceCt j
  else if op = 0x0201 then
    let h := arg % 256
    let scheme := arg / 256
    if scheme = 0 then h == 0 && len == rsaK param
    else if scheme ≤ 2 then within h 1 7 && len == phLen h
    else scheme == 3 && within h 1 7 && len == rsaK param
  else if op = 0x0202 then
    let h := arg % 256
    let scheme := arg / 256
    let pre := if keyed then 0 else rsaK param + 4
    let body := len - pre
    decide (pre ≤ len)
      && (if scheme = 0 then h == 0 && body == rsaK param
          else if scheme ≤ 2 then within h 1 7 && body == phLen h + rsaK param
          else scheme == 3 && within h 1 7 && decide (body + 2 * phLen h + 2 ≤ rsaK param))
  else if op = 0x0212 then within len 20 64
  else if op = 0x0213 then
    let pre := (if !keyed && isSupplied param then curveBlock param else 0) + 2 * f
    if keyed then decide (pre ≤ len) && within (len - pre) 20 64
    else (decide (pre + 1 + f ≤ len) && within (len - (pre + 1 + f)) 20 64)
      || (decide (pre + 1 + 2 * f ≤ len) && within (len - (pre + 1 + 2 * f)) 20 64)
  else if op = 0x0214 then len == 1 + f || len == 1 + 2 * f
  else if op = 0x0222 ∨ op = 0x0223 then
    let mode := bitsOf arg 9 8
    let ctx := arg % 256
    let pre := ctx + (if op = 0x0223 then edSig param + (if keyed then 0 else edKey param) else 0)
    decide (mode ≤ 2) && !(mode == 0 && param == 0x20 && ctx != 0) && decide (pre ≤ len)
      && (if op = 0x0223 then decide (len - pre ≤ 1048576)
          else if mode = 2 then len - pre == 64 else decide (len - pre ≤ 4096))
  else if op = 0x0232 then len == xKey param
  else if op = 0x0241 then len == curveBlock param
  else if op = 0x0301 ∨ op = 0x0303 then decide ((if param < 0x80 then 12 else 0) + arg ≤ len)
  else if op = 0x0302 ∨ op = 0x0304 then decide (28 + arg ≤ len)
  else if op = 0x0305 ∨ op = 0x0306 then
    within arg 9 16 && decide (16 ≤ len) && (len - 16) % 2 ^ arg == 0
  else if op = 0x0307 then decide (16 ≤ len)
  else if op = 0x0308 ∨ op = 0x0309 then decide (16 ≤ len) && len % 16 == 0
  else if op = 0x0311 ∨ op = 0x0312 then macLen 0 (digestLen param) len (argCompare arg)
  else if op = 0x0313 then within arg 1 65536
  else if op = 0x0321 then
    let tl := arg % 256
    let d := digestLen param
    (tl == 0 || within tl 16 d) && macLen 0 (if tl = 0 then d else tl) len (argCompare arg)
  else if op = 0x0322 then
    let l := arg % 256
    within l 16 64 && macLen (bitsOf arg 23 8) l len (argCompare arg)
  else if op = 0x0401 then
    let fin := variantOf param
    let pan := if fin == 1 && t == 1 then 0 else 11
    let ksn := if argDukpt op arg then ksnLen (fin != 4) else 0
    len == ksn + (if fin = 4 then 16 else 8) + pan && argSize arg != 3
  else if op = 0x0411 then len == ksnLen (decide (0x80 ≤ param)) && argSize arg != 3
  else if op = 0x0421 then within len 23 277
  else if op = 0x0431 then true
  else if op = 0x0441 then
    within (arg % 256) 4 8 && macLen (if argDukpt op arg then 10 else 0) (arg % 256) len (argCompare arg)
  else if op = 0x0442 then
    within (arg % 256) 4 16 && macLen (if argDukpt op arg then 12 else 0) (arg % 256) len (argCompare arg)
      && argSize arg != 3
  else true

/-- The input length of 0x0422, which depends on where its key comes from (R272). -/
def arpcLenOk (param len : Nat) (bySource : Bool) : Bool :=
  let pre := if bySource then 0 else 14
  if param % 16 = 1 then len == pre + 10 else within len (pre + 12) (pre + 20)

/-- The input length limit of the transaction class on a lane (R252, R258, R265). -/
def classLenOk (op len : Nat) (bulk : Bool) : Bool :=
  match unitOf op with
  | .cip | .dig => bulk || decide (len ≤ 4096)
  | _ => true

/-! ## Outputs -/

/-- The attribute word of a generated secret key: the type, PARAM and the item's USAGE (R161, R292). -/
def genAttr (op param arg : Nat) : QWord :=
  let u := arg / 65536
  if op < 0x0110 then attrWord 0x21 param u true
  else if op < 0x0120 then attrWord 0x23 param u true
  else if op < 0x0140 then attrWord 0x26 param u true
  else if op < 0x0150 then attrWord 0x28 param u true
  else if op < 0x0200 then attrWord 0x2A param u true
  else if op = 0x0203 then attrWord 0x31 param u true
  else if op = 0x0211 then attrWord 0x33 param u true
  else if op = 0x0221 then attrWord 0x36 param u true
  else attrWord 0x38 param u true

/-- The length of a generated secret key (R157, R179, R185, R187, R233; RSA by the CRT form of R224). -/
def genLen (op param : Nat) : Nat :=
  if op < 0x0110 then kemDk (param - 2)
  else if op < 0x0120 then dsaSk (param - 2)
  else if op < 0x0140 then 4 * slhN param
  else if op < 0x0150 then hqcSk (param - 1)
  else if op < 0x0200 then mceSk (param - 1)
  else if op = 0x0203 then 7 * (rsaK param / 2)
  else if op = 0x0211 then fieldLen param
  else if op = 0x0221 then edKey param
  else xKey param

/-- The length of output 0 of a key generation: the public key, or for Classic McEliece its hash (R187). -/
def genPubLen (op param : Nat) : Nat :=
  if op < 0x0110 then kemEk (param - 2)
  else if op < 0x0120 then dsaPk (param - 2)
  else if op < 0x0140 then 2 * slhN param
  else if op < 0x0150 then hqcPk (param - 1)
  else if op < 0x0200 then 32
  else if op = 0x0203 then rsaK param + 4
  else if op = 0x0211 then 1 + 2 * fieldLen param
  else if op = 0x0221 then edKey param
  else xKey param

/-- A public output. -/
def pubOut (len : Nat) : OutSpec := { len := len }

/-- A secret output of a key type with its attribute word (R295). -/
def keyOut (len typ param usage : Nat) : OutSpec :=
  { len := len, secret := true, key := some (attrWord typ param usage true) }

def kemKey : OutSpec := keyOut 32 0x01 0x03 (uEncrypt + uDecrypt + uMac + uDerive)

/-- The USAGE of a DUKPT working key (R295). -/
def dukptUsage (u : Nat) : Nat :=
  pick [0, uPin, uMac + uSign, uMac + uVerify, uMac, uEncrypt, uDecrypt, uEncrypt + uDecrypt] u

/-- The outputs of an opcode for an input length, with `kp` the PARAM of the first key (R73, R295). -/
def opOuts (op param arg len kp : Nat) : List OutSpec :=
  let i := param - 2
  let j := param - 1
  if isKeygen op then
    pubOut (genPubLen op param) ::
      (if destOf arg = 2 then [{ len := genLen op param, secret := true, key := some (genAttr op param arg) }]
       else [])
  else if op = 0x0102 ∨ op = 0x0105 then [pubOut (kemCt i), kemKey]
  else if op = 0x0103 then [kemKey]
  else if op = 0x0112 ∨ op = 0x0115 then [pubOut (dsaSig (setOf param - 2))]
  else if op = 0x0132 ∨ op = 0x0135 then [pubOut (slhSig (setOf param))]
  else if op = 0x0142 ∨ op = 0x0145 then [pubOut (hqcCt j), keyOut 64 0x06 0 (uMac + uDerive)]
  else if op = 0x0143 then [keyOut 64 0x06 0 (uMac + uDerive)]
  else if op = 0x0152 ∨ op = 0x0155 then [pubOut (mceCt j), kemKey]
  else if op = 0x0153 then [kemKey]
  else if op = 0x0156 then [pubOut (mcePk j)]
  else if op = 0x0201 then
    if arg / 256 = 3 then
      [keyOut (rsaK param - 2 * phLen (arg % 256) - 2) 0x07 param (uMac + uDerive)]
    else [pubOut (rsaK param)]
  else if op = 0x0202 then if arg / 256 = 0 ∨ arg / 256 = 3 then [pubOut (rsaK param)] else []
  else if op = 0x0212 then [pubOut (2 * fieldLen param)]
  else if op = 0x0214 then [keyOut (fieldLen param) 0x07 param (uMac + uDerive)]
  else if op = 0x0222 then [pubOut (edSig param)]
  else if op = 0x0232 then [keyOut (xKey param) 0x07 param (uMac + uDerive)]
  else if op = 0x0301 ∨ op = 0x0303 then
    [pubOut (if param < 0x80 then len - 12 - arg + 16 else len - arg + 28)]
  else if op = 0x0302 ∨ op = 0x0304 then [pubOut (len - 28 - arg)]
  else if 0x0305 ≤ op ∧ op ≤ 0x0309 then [pubOut (len - 16)]
  else if op = 0x0311 ∨ op = 0x0312 then if argCompare arg then [] else [pubOut (digestLen param)]
  else if op = 0x0313 then [pubOut arg]
  else if op = 0x0321 then
    if argCompare arg then [] else [pubOut (if arg % 256 = 0 then digestLen param else arg % 256)]
  else if op = 0x0322 ∨ op = 0x0441 ∨ op = 0x0442 then if argCompare arg then [] else [pubOut (arg % 256)]
  else if op = 0x0401 then [pubOut (if setOf param = 4 then 16 else 8)]
  else if op = 0x0411 then
    [if param < 0x80 then keyOut (16 + 8 * argSize arg) 0x01 (1 + argSize arg) (dukptUsage param)
     else keyOut 16 0x10 0 (dukptUsage (setOf param))]
  else if op = 0x0421 then
    [if param = 1 then keyOut (8 + 8 * kp) 0x01 kp uEmv else keyOut 16 0x10 0 uEmv, pubOut 8]
  else if op = 0x0422 then [pubOut (if param % 16 = 1 then 8 else 4)]
  else if op = 0x0431 then
    pubOut 5 :: (if destOf arg = 2 then [{ len := 32, secret := true, key := some 0 }] else [])
  else []

/-- ENV_US of an opcode; 0 is a public operation (R156, R183, R190, R194, R231, R236, R239 to R241, R248, R265). -/
def opEnv (op param : Nat) : Nat :=
  let i := param - 2
  let j := param - 1
  let t := setOf param
  if op = 0x0101 ∨ op = 0x0104 then pick [28, 40, 52] i
  else if op = 0x0102 ∨ op = 0x0105 then pick [11, 16, 22] i
  else if op = 0x0103 then pick [20, 30, 40] i
  else if op = 0x0111 ∨ op = 0x0114 then pick [40, 60, 90] i
  else if op = 0x0112 ∨ op = 0x0115 then pick [600, 1000, 1600] (t - 2)
  else if op = 0x0131 ∨ op = 0x0134 then pick [8500, 60, 12000, 85, 8000, 210] (t - 1)
  else if op = 0x0132 ∨ op = 0x0135 then pick [60000, 1600, 106000, 2900, 95000, 5900] (t - 1)
  else if op = 0x0141 ∨ op = 0x0144 then pick [24, 62, 130] j
  else if op = 0x0142 ∨ op = 0x0145 then pick [60, 160, 330] j
  else if op = 0x0143 then pick [120, 310, 660] j
  else if op = 0x0151 ∨ op = 0x0154 then pick [120000, 1000000] j
  else if op = 0x0152 ∨ op = 0x0155 then pick [45, 170] j
  else if op = 0x0153 then pick [190, 700] j
  else if op = 0x0201 then rsaEnv (param + 1)
  else if op = 0x0203 then if param = 0x1F then 25000 else if param = 0x2F then 125000 else 400000
  else if op = 0x0211 then ecEnv 0 param
  else if op = 0x0212 then ecEnv 1 param
  else if op = 0x0214 then ecEnv 2 param
  else if op = 0x0221 then if param = 0x20 then 10 else 45
  else if op = 0x0222 then if param = 0x20 then 10 else 50
  else if op = 0x0231 then if param = 0x30 then 10 else 45
  else if op = 0x0232 then if param = 0x30 then 10 else 55
  else if op = 0x0308 then 6
  else if 0x0301 ≤ op ∧ op ≤ 0x0309 then 4
  else if op = 0x0321 ∨ op = 0x0322 then 5
  else if op = 0x0401 then 4
  else if op = 0x0411 ∨ op = 0x0421 then 3
  else if op = 0x0422 then 2
  else if op = 0x0431 then 8
  else if op = 0x0441 ∨ op = 0x0442 then 7
  else 0

/-- Worst-case compute in ns of the engine opcodes (R166, R183, R190, R194, R239 to R241; test opcodes as the operation
they test). The envelope itself where no worst case is given. -/
def opWorst (op param : Nat) : Nat :=
  let i := param - 2
  let j := param - 1
  let t := setOf param
  let ec := fun (l : List Nat) => 5 * pick l j / 8
  if op = 0x0101 ∨ op = 0x0104 then pick [14400, 20600, 27500] i
  else if op = 0x0102 ∨ op = 0x0105 then pick [9000, 14000, 19000] i
  else if op = 0x0103 then pick [17300, 26600, 37000] i
  else if op = 0x0111 ∨ op = 0x0114 then pick [33800, 55000, 81900] i
  else if op = 0x0112 ∨ op = 0x0115 then pick [479500, 968750, 1537250] (t - 2)
  else if op = 0x0132 ∨ op = 0x0135 then pick [55700000, 1260000, 99000000, 2250000, 87900000, 4550000] (t - 1)
  else if op = 0x0141 ∨ op = 0x0144 then pick [19300, 50200, 106200] j
  else if op = 0x0142 ∨ op = 0x0145 then pick [48900, 127500, 269100] j
  else if op = 0x0143 then pick [96600, 251100, 531100] j
  else if op = 0x0152 ∨ op = 0x0155 then pick [39000, 152000] j
  else if op = 0x0153 then pick [154500, 566500] j
  else if op = 0x0201 then
    match rsaEnv (param + 1) with
    | 20 => 13100 | 60 => 40300 | 140 => 90600 | 400 => 289500 | 1000 => 680000 | 7000 => 5220000 | 52000 => 41300000
    | e => 1000 * e
  else if (op = 0x0211 ∨ op = 0x0212 ∨ op = 0x0214) ∧ isSupplied param then
    match opEnv op param with
    | 24 => 17200 | 80 => 58000 | 190 => 137500 | 640 => 464000 | 1500 => 1100000
    | e => 1000 * e
  else if op = 0x0212 then ec [12100, 40800, 124600, 12100, 15700, 53000, 125800]
  else if op = 0x0214 then ec [19800, 66800, 204000, 18800, 25700, 86800, 205900]
  else if op = 0x0232 then if param = 0x30 then 6800 else 36750
  else 1000 * opEnv op param

/-- The host-read allowance of an engine opcode in ns: what its worst-case compute leaves of the envelope (R166, R183). -/
def opAllow (op param : Nat) : Nat := 1000 * opEnv op param - opWorst op param

/-- The statuses with which the arithmetic of an opcode can end a job after dispatch (R165, R171, R195, R232 to R237, R256 to
R258, R267 to R275). `inlineKey` says that the item names no key, `bySource` that its key comes through KEYSRC. -/
def endStatuses (op arg : Nat) (inlineKey bySource : Bool) : List Status :=
  if op = 0x0102 ∨ op = 0x0105 then if inlineKey then [.ok, .badRange] else [.ok]
  else if op = 0x0113 ∨ op = 0x0133 ∨ op = 0x0241 ∨ op = 0x0302 ∨ op = 0x0304 then [.ok, .okFalse]
  else if op = 0x0121 then if inlineKey then [.ok, .okFalse, .badFormat] else [.ok, .okFalse]
  else if op = 0x0142 ∨ op = 0x0145 then if inlineKey then [.ok, .badFormat] else [.ok]
  else if op = 0x0201 then
    if arg / 256 = 0 then [.ok, .badRange] else if arg / 256 = 3 then [.ok, .badRange, .badFormat] else [.ok]
  else if op = 0x0202 then
    (if arg / 256 = 0 then [.ok, .badRange] else if arg / 256 ≤ 2 then [.ok, .okFalse] else [.ok])
      ++ (if inlineKey then [.badFormat] else [])
  else if op = 0x0213 then
    [.ok, .okFalse] ++ (if inlineKey then [.badFormat, .badRange, .badPoint] else [])
  else if op = 0x0214 then [.ok, .badFormat, .badRange, .badPoint]
  else if op = 0x0223 then [.ok, .okFalse] ++ (if inlineKey then [.badPoint] else [])
  else if op = 0x0232 then [.ok, .badPoint]
  else if op = 0x0311 ∨ op = 0x0312 ∨ op = 0x0321 ∨ op = 0x0322 then if argCompare arg then [.ok, .okFalse] else [.ok]
  else if op = 0x0401 then [.ok, .badFormat] ++ (if argDukpt op arg then [.badRange] else [])
  else if op = 0x0411 then [.ok, .badRange]
  else if op = 0x0421 then [.ok, .okFalse, .badFormat]
  else if op = 0x0422 then if bySource then [.ok] else [.ok, .badFormat]
  else if op = 0x0431 then [.ok, .badFormat]
  else if op = 0x0441 ∨ op = 0x0442 then
    (if argCompare arg then [.ok, .okFalse] else [.ok]) ++ (if argDukpt op arg then [.badRange] else [])
  else [.ok]

/-- The statuses with which a host-held blob ends the item that uses it (R297). -/
def blobStatuses : List Status := [.keyTenant, .keyAbsent, .keyUsage, .badFormat, .versionMismatch]

/-- ENV_FRAG_US (R248, R265). -/
def opEnvFrag (op : Nat) : Nat :=
  if op = 0x0308 ∨ op = 0x0441 ∨ op = 0x0442 then 56
  else if 0x0301 ≤ op ∧ op ≤ 0x0309 then 16
  else if op = 0x0321 ∨ op = 0x0322 then 30
  else 0

/-- NEEDS_ENTROPY (R156, R178, R231, R248, R265). -/
def opEntropy (op param arg : Nat) : Bool :=
  [0x0101, 0x0102, 0x0111, 0x0131, 0x0141, 0x0142, 0x0151, 0x0152, 0x0203, 0x0211, 0x0221, 0x0231].contains op
    || ((op == 0x0112 || op == 0x0132) && variantOf param % 2 == 0)
    || (op == 0x0201 && arg / 256 == 2) || (op == 0x0202 && arg / 256 == 3)
    || (op == 0x0212 && !arg.testBit 8)
    || ((op == 0x0301 || op == 0x0303) && decide (0x80 ≤ param))
    || (op == 0x0401 && setOf param != 0)

/-- The dispatch-table entry, with FAMILY_MASK the families of the firmware bundle (R73, R343). -/
def opEntry (mask : BitVec 16) (op param arg len kp : Nat) : Option OpEntry :=
  if opExists op param then
    let c := unitOf op
    some
      { cls := c, env := opEnv op param, envFrag := opEnvFrag op
        ext := [0x0112, 0x0115, 0x0151, 0x0154, 0x0203].contains op
        entropy := opEntropy op param arg
        zest := decide (opEnv op param ≠ 0) && (c == .pip || c == .med)
        families := mask, outs := opOuts op param arg len kp }
  else none

/-- GF-active cycles G of a job, fixed by opcode and parameter set (R192, R194). -/
def gfActive (op param : Nat) : Nat :=
  let j := param - 1
  if op = 0x0141 ∨ op = 0x0144 then pick [20000, 52000, 110000] j
  else if op = 0x0142 ∨ op = 0x0145 then pick [68000, 177000, 374000] j
  else if op = 0x0143 then pick [117000, 304000, 644000] j
  else if op = 0x0151 ∨ op = 0x0154 then pick [24900000, 205000000] j
  else if op = 0x0152 ∨ op = 0x0155 then pick [9000, 34000] j
  else if op = 0x0153 then pick [147000, 546000] j
  else 0

/-! ## Keys -/

/-- How an opcode takes its first key. -/
inductive KeyMode where
  | none | inline | need | dest
deriving DecidableEq, Repr

def keyMode (op param : Nat) : KeyMode :=
  if isMceGen op then .dest
  else if op = 0x0211 then if isSupplied param then .need else .none
  else if isKeygen op ∨ isDigest op ∨ op = 0x0241 then .none
  else if [0x0102, 0x0105, 0x0113, 0x0121, 0x0133, 0x0142, 0x0145, 0x0202, 0x0213, 0x0223].contains op then .inline
  else .need

/-- The opcode reads a public key (R161). -/
def wantsPub (op : Nat) : Bool :=
  [0x0102, 0x0105, 0x0113, 0x0121, 0x0133, 0x0142, 0x0145, 0x0152, 0x0155, 0x0156, 0x0202, 0x0213, 0x0223].contains op

/-- The opcode takes a Classic McEliece public key from the key store or the shared pool, by KEY_HANDLE alone (R187, R188). -/
def streamsPk (op : Nat) : Bool := [0x0152, 0x0155, 0x0156].contains op

/-- Encapsulation and verification, which may name a key of the shared pool (R213); 0x0202 verifies under the schemes 1
and 2 of R232. -/
def mayShare (op arg : Nat) : Bool := wantsPub op && op != 0x0156 && (op != 0x0202 || within (arg / 256) 1 2)

/-- The word has a type, a PARAM and every bit of a usage mask. -/
def isKey (a : QWord) (typ param usage : Nat) : Bool :=
  aType a == typ && aParam a == param && hasAll (aUsage a) usage

/-- Signing keys: SIGN_MODE and SIGN_DET against the variant (R163, R180). -/
def signPolicy (a : QWord) (variant : Nat) : Bool :=
  aPrehash a == decide (2 ≤ variant)
    && (if variant % 2 = 1 then aSignDet a == 1 || aSignDet a == 2 else aSignDet a != 2)

/-- USE_SIGN or USE_VERIFY alone limits the direction of a MAC key (R250). -/
def macDirection (a : QWord) (compare : Bool) : Bool :=
  let sg := hasAll (aUsage a) uSign
  let vf := hasAll (aUsage a) uVerify
  if sg && !vf then !compare else if vf && !sg then compare else true

/-- An AES DUKPT derivation key of at least the working key's size, or a TDES one (R270). -/
def dukptKey (a : QWord) (tdes : Bool) (size : Nat) : Bool :=
  if tdes then aType a == 0x11 && hasAll (aUsage a) uDerive
  else (aType a == 0x12 || aType a == 0x13) && hasAll (aUsage a) uDerive && decide (size + 1 ≤ aParam a)

/-- The key at KEY_HANDLE or KEYSRC meets the opcode (R163, R180, R186, R188, R189, R250, R268 to R274, R475).
`loc` is the LOC of the handle, or none for KEYSRC. -/
def keyFits (op param arg : Nat) (loc : Option Nat) (a : QWord) (len : Nat) : Bool :=
  let t := setOf param
  let v := variantOf param
  if op = 0x0102 ∨ op = 0x0105 then isKey a 0x20 param uEncaps
  else if op = 0x0103 then isKey a 0x21 param uDecaps
  else if op = 0x0112 ∨ op = 0x0115 then isKey a 0x23 t uSign && signPolicy a v
  else if op = 0x0113 then isKey a 0x22 t uVerify && aPrehash a == decide (2 ≤ v)
  else if op = 0x0121 then isKey a 0x24 param uVerify
  else if op = 0x0132 ∨ op = 0x0135 then isKey a 0x26 t uSign && signPolicy a v
  else if op = 0x0133 then isKey a 0x25 t uVerify && aPrehash a == decide (2 ≤ v)
  else if op = 0x0142 ∨ op = 0x0145 then isKey a 0x27 param uEncaps
  else if op = 0x0143 then isKey a 0x28 param uDecaps
  else if op = 0x0152 ∨ op = 0x0155 then loc == some 1 && isKey a 0x29 param uEncaps
  else if op = 0x0156 then loc == some 1 && isKey a 0x29 param 0
  else if op = 0x0153 then isKey a 0x2A param uDecaps
  else if op = 0x0201 then
    let scheme := arg / 256
    isKey a 0x31 param (if scheme = 0 then uSign + uRaw else if scheme = 3 then uDecrypt else uSign)
  else if op = 0x0202 then
    let scheme := arg / 256
    if scheme = 0 then isKey a 0x30 param uVerify || isKey a 0x30 param uEncrypt
    else isKey a 0x30 param (if scheme = 3 then uEncrypt else uVerify)
  else if op = 0x0211 then isKey a 0x34 param 0
  else if op = 0x0212 then
    isKey a 0x33 param uSign
      && (if arg.testBit 8 then aSignDet a == 1 || aSignDet a == 2 else aSignDet a != 2)
  else if op = 0x0213 then isKey a 0x32 param uVerify
  else if op = 0x0214 then isKey a 0x33 param uDerive
  else if op = 0x0222 then isKey a 0x36 param uSign
  else if op = 0x0223 then isKey a 0x35 param uVerify
  else if op = 0x0232 then isKey a 0x38 param uDerive
  else if op = 0x0301 ∨ op = 0x0308 then isKey a 0x01 (param % 0x80) uEncrypt
  else if op = 0x0302 ∨ op = 0x0309 then isKey a 0x01 param uDecrypt
  else if op = 0x0303 then aType a == 0x03 && hasAll (aUsage a) uEncrypt
  else if op = 0x0304 then aType a == 0x03 && hasAll (aUsage a) uDecrypt
  else if op = 0x0305 then isKey a 0x02 param uEncrypt
  else if op = 0x0306 then isKey a 0x02 param uDecrypt
  else if op = 0x0307 then isKey a 0x01 param (uEncrypt + uDecrypt)
  else if op = 0x0321 then
    let block := pick [0, 0, 64, 128, 128] param + (if param = 0x12 then 136 else if param = 0x14 then 72 else 0)
    aType a == 0x04 && hasAll (aUsage a) uMac && within len 1 block && macDirection a (argCompare arg)
  else if op = 0x0322 then
    ((aType a == 0x05 && hasAll (aUsage a) uMac && within len 16 64) || aType a == 0x06 || aType a == 0x07)
      && macDirection a (argCompare arg)
  else if op = 0x0401 then
    if argDukpt op arg then dukptKey a (v != 4) (argSize arg)
    else aType a == (if v = 4 then 0x01 else 0x10) && hasAll (aUsage a) uPin
  else if op = 0x0411 then dukptKey a (decide (0x80 ≤ param)) (argSize arg)
  else if op = 0x0421 then aType a == (if param = 1 then 0x14 else 0x15) && hasAll (aUsage a) uEmv
  else if op = 0x0422 then
    if loc == none then aType a == (if param < 0x80 then 0x01 else 0x10) && aUsage a == uEmv
    else aType a == (if param < 0x80 then 0x14 else 0x15) && hasAll (aUsage a) uEmv
  else if op = 0x0431 then aType a == 0x16 && hasAll (aUsage a) uUnwrap
  else if op = 0x0441 then
    (if argDukpt op arg then dukptKey a true 0 else aType a == 0x10 && hasAll (aUsage a) uMac)
      && macDirection a (argCompare arg)
  else if op = 0x0442 then
    (if argDukpt op arg then dukptKey a false (argSize arg) && argSize arg + 1 == param else isKey a 0x01 param uMac)
      && macDirection a (argCompare arg)
  else true

/-- The output PIN key at KEY2_HANDLE of 0x0401 (R268). -/
def pinKeyFits (param : Nat) (a : QWord) : Bool :=
  aType a == (if setOf param = 4 then 0x01 else 0x10) && hasAll (aUsage a) uPin

/-- The CUR_LEGACY bits that an item needs in FIELDED (R276). -/
def legacyNeed (op param arg : Nat) (key1 : Nat) : Nat :=
  if op = 0x0401 then
    (if argDukpt op arg && variantOf param != 4 then 0x1 else 0)
      ||| (if (!argDukpt op arg && variantOf param != 4) || setOf param != 4 then 0x2 else 0)
  else if op = 0x0411 then if 0x80 ≤ param then 0x1 else 0
  else if op = 0x0421 ∨ op = 0x0422 then if 0x80 ≤ param then 0x4 else 0
  else if op = 0x0431 then if key1 = 0x10 then 0x10 else 0
  else if op = 0x0441 then 0x8 ||| (if argDukpt op arg then 0x1 else 0)
  else 0

/-- The last byte of s in an HQC public key, and of u in an HQC ciphertext, keeps its unused high bits at 0 (R185): its place in
output 0 and its mask. -/
def hqcEdge (op param : Nat) : Option (Nat × Byte) :=
  let i := param - 1
  let m : Byte := pick [0x1F, 0x07, 0x1F] i
  if op = 0x0141 ∨ op = 0x0144 then some (hqcPk i - 1, m)
  else if op = 0x0142 ∨ op = 0x0145 then some (hqcPk i - 41, m)
  else none

/-- Opcodes that look a public key up in the Pulp cache: the SCHEME of R210, or 0 for none (R159, R188). -/
def pulpScheme (op : Nat) : Nat :=
  if op = 0x0102 ∨ op = 0x0105 then 1 else if op = 0x0113 then 2 else if op = 0x0121 then 3
  else if op = 0x0152 ∨ op = 0x0155 then 4 else 0

/-- The entry length in KiB (R209). -/
def pulpKib (scheme param : Nat) : Nat :=
  if scheme = 1 then pick [4, 6, 10] (param - 2) else if scheme = 2 then pick [16, 28, 49] (setOf param - 2)
  else if scheme = 3 then pick [2, 4] (param - 9) else pick [256, 1021] (param - 1)

end Sys2Proof.Machine
end

