-- ==== Sys2Proof/Machine/Flags.lean ====
section
/-! DEFINITION. Completion words and flags (R63 to R65), the choice of a punnet's status and wait (R18, R19, R62),
trace records (R95 to R97), and blobs (R297). -/

namespace Sys2Proof.Machine

/-! ## Items and steps -/

/-- Nothing has ended or failed the item. -/
def Item.live (it : Item) : Bool := it.decided.isNone && it.fail.isNone

def Item.step? (it : Item) (n : Nat) : Option Step := it.steps.find? (fun x => x.num == n)

def Item.setStep (it : Item) (st : Step) : Item :=
  { it with steps := it.steps.map (fun x => if x.num = st.num then st else x) }

def State.item? (s : State) (seq : Nat) : Option Item := s.orc.items.find? (fun x => x.seq == seq)

def State.setItem (s : State) (it : Item) : State :=
  { s with orc := { s.orc with items := s.orc.items.map (fun x => if x.seq = it.seq then it else x) } }

/-- An item leaves Orchard, and what it had sealed in staging with it (R206). -/
def State.dropItem (s : State) (seq : Nat) : State :=
  { s with orc := { s.orc with items := s.orc.items.filter (fun x => x.seq != seq) }
           hbm := { s.hbm with sealed := s.hbm.sealed.filter (fun x => x.seq != seq) }
           eng := { s.eng with slots := s.eng.slots.filter (fun c => c.seq != seq) } }

/-- The step was dispatched and has not ended. -/
def Step.outstanding (st : Step) : Bool :=
  match st.phase with
  | .running | .staged | .scrub | .port => true
  | _ => false

/-- The step was never dispatched, or waits to be dispatched again. -/
def Step.waiting (st : Step) : Bool :=
  match st.phase with
  | .held | .entropy _ _ | .placed => true
  | _ => false

/-- The step was lost with its region and waits to be dispatched again (R119). -/
def Step.awaitsRerun (st : Step) : Bool := st.waiting && st.lost.isSome

/-- A dispatched step of the item has still to reach its end (R18, R19, R119). -/
def Item.busy (it : Item) : Bool := it.steps.any (fun x => x.outstanding || x.awaitsRerun)

/-- Orchard still places and dispatches the step: its item is live, or it was dispatched before the item failed and its region
was lost (R19, R119). -/
def Item.serves (it : Item) (st : Step) : Bool := it.decided.isNone && (it.fail.isNone || st.lost.isSome)

/-- Step `n`, if it waits for a re-run, ends without it. -/
def Item.stopLost (it : Item) (n now : Nat) : Item :=
  { it with steps := it.steps.map (fun x =>
      if x.num = n && x.awaitsRerun then { x with phase := .done, endAt := some now } else x) }

/-- The step's status (R62, R65, R85). -/
def Step.status (st : Step) : Status :=
  match st.res with
  | none => .ok
  | some r => if r.status == .ok && st.extended then .okEnvExtended else r.status

/-- The result met the guards on it (R59). -/
def Step.passes (st : Step) : Bool := st.status == .ok || st.status == .okEnvExtended

/-- The step yielded its outputs (R60, R66, R271). -/
def Step.yields (st : Step) : Bool := st.passes || (st.status == .okFalse && st.d.opcode == 0x0421)

/-! ## The status of a punnet (R62) -/

/-- The verdict of a punnet all of whose steps ended without ending it under R19. -/
def Item.success (it : Item) (now : Nat) : Verdict :=
  match it.steps.find? (fun x => x.status == .okFalse || x.status == .invalidScrubbed) with
  | some x => { st := x.status, step := x.num, at_ := now }
  | none =>
    match it.steps.find? (fun x => x.status == .okEnvExtended) with
    | some x => { st := .okEnvExtended, step := x.num, at_ := now }
    | none => { st := .ok, at_ := now }

/-! ## Keys that steps generate (R60, R161, R187, R274) -/

/-- Where a key generation or import places its key: handle and LOC (R161, R274). -/
def Step.dest (st : Step) : Option (QWord × Nat) :=
  if hasDest st.d.opcode && decide (destOf st.d.opArg < 2) then some (st.d.key2, destOf st.d.opArg) else none

/-- The blob to which Classic McEliece key generation writes pk (R187). -/
def Step.pkDest (st : Step) : Option QWord := if isMceGen st.d.opcode then some st.d.key else none

/-- The step that generates the key a step names by KEY_HANDLE (R60). -/
def keyDep (prevs : List Step) (st : Step) : List Nat :=
  if selValid st.lk.keysrc then []
  else (prevs.filter (fun p => (p.dest.map (·.1) == some st.d.key && isKeygen p.d.opcode)
      || p.pkDest == some st.d.key)).map (·.num)

/-- The steps that must end before a step: producers, guards, and the generator of its key (R60). -/
def Item.needs (it : Item) (st : Step) : List Nat :=
  depsOf st.lk ++ keyDep (it.steps.filter (fun p => decide (p.num < st.num))) st

/-! ## The queue wait (R18, R64, R90) -/

/-- The tick in which the inputs of a step became available. -/
def Item.avail (it : Item) (st : Step) : Nat :=
  (it.needs st).foldl (fun m j => match it.step? j with
    | some p => max m (p.endAt.getD m)
    | none => m) it.acc

/-- The largest wait along a chain that ends at a step; `own` is the wait of that step. -/
def Item.chain (it : Item) : Nat → Step → Nat → Nat
  | 0, _, own => own
  | n + 1, st, own =>
    own + (it.needs st).foldl (fun m j => match it.step? j with
      | some p => max m (Item.chain it n p p.wait)
      | none => m) 0

/-- WAIT_US of an item that posts now with a verdict. A punnet that a step failed without being dispatched counts that
step's chain, unless a dispatched step ended later than the tick after the failure (R18). -/
def Item.waitUs (it : Item) (v : Verdict) (now : Nat) : Nat :=
  let run := it.steps.filter (fun x => x.first.isSome)
  if run.isEmpty then now - it.acc
  else if !it.punnet then run.foldl (fun m x => max m x.wait) 0
  else
    let last := run.foldl (fun m x => max m (x.endAt.getD 0)) 0
    let best := (run.filter (fun x => x.endAt.getD 0 == last)).foldl (fun m x => max m (it.chain 16 x x.wait)) 0
    match it.fail, it.step? v.step with
    | some e, some f =>
      if f.first.isNone && decide (last ≤ e.at_ + 1) then
        max (it.chain 16 f (now - it.avail f)) (if last = now then best else 0)
      else best
    | _, _ => best

/-! ## Completion entries (R63, R65) -/

def Item.flags (it : Item) : Nat :=
  16 * flag (it.steps.any (·.pulpMiss)) + 4 * flag (it.steps.any (·.deferred)) + 2 * flag it.shaped + flag it.retried

def cplDw1 (sqHead q : Nat) : Word := fieldAt sqHead 16 ||| fieldAt q 0
def cplDw2 (wait : Nat) (why : Reason) : Word := fieldAt (min wait 0xFFFFFF) 8 ||| fieldAt why.code 0
def cplDw3 (st : Status) (flags step : Nat) (phase : Bool) : Word :=
  fieldAt st.code 24 ||| fieldAt flags 16 ||| fieldAt step 10 ||| flagAt phase 0

/-- The 16 bytes of an entry: four little-endian words (R51). -/
def cplBytes (a b c d : Word) : List Byte := leBytes 4 a.toNat ++ leBytes 4 b.toNat ++ leBytes 4 c.toNat ++ leBytes 4 d.toNat

/-! ## Trace records (R95 to R97) -/

def traceQw (tick event qp : Nat) : QWord :=
  BitVec.ofNat 64 ((tick % 2 ^ 40) * 2 ^ 24 + event * 2 ^ 16 + qp)

def traceQw1 (tag : Word) (tenant step prio cls unitCls region unit : Nat) : QWord :=
  BitVec.ofNat 64 (tag.toNat * 2 ^ 32 + tenant * 2 ^ 22 + step * 2 ^ 17 + prio * 2 ^ 14 + cls * 2 ^ 13
    + unitCls * 2 ^ 10 + region * 2 ^ 8 + unit)

def traceQw2 (opcode param st why flags : Nat) : QWord :=
  BitVec.ofNat 64 (opcode * 2 ^ 48 + param * 2 ^ 40 + st * 2 ^ 32 + why * 2 ^ 24 + flags * 2 ^ 16)

/-- The 32 bytes of a record: four little-endian words. -/
def traceBytes (a b c d : QWord) : List Byte := leBytes 8 a.toNat ++ leBytes 8 b.toNat ++ leBytes 8 c.toNat ++ leBytes 8 d.toNat

/-- ENABLE, FILTER_EN, UNIT_EN, FILTER_TENANT and the ring size of ORC_TRACE_CTRL (R94). -/
def traceOn (c : Word) : Bool := c.getLsbD 31
def traceUnits (c : Word) : Bool := c.getLsbD 29
def traceTakes (c : Word) (tenant : Nat) : Bool := !c.getLsbD 30 || bitsOf c.toNat 25 16 == tenant
def traceSize (c : Word) : Nat := 2 ^ bitsOf c.toNat 4 0

/-- Write a trace record of an event, or count it lost (R95). `unit` is the unit the event names. REGION reads 0 in the
records of an item that was never placed (DESIGN CHOICE, assumption 54). The write is discarded while the link is down (R39)
or the PF may not write (assumption 29). -/
def State.trace (s : State) (it : Item) (sp : Option Step) (event arg : Nat) (v : Verdict) (unit : Option Nat) :
    State :=
  let o := s.orc
  if traceOn o.traceCtrl && traceTakes o.traceCtrl it.fn then
    let size := traceSize o.traceCtrl
    if (o.traceHead + 1) % size = o.traceTail % size then
      { s with orc := { o with traceLost := satSucc o.traceLost } }
    else
      let u := match unit with
        | some n => if traceUnits o.traceCtrl then n else 0xFF
        | none => 0xFF
      let at_ := o.traceBase + BitVec.ofNat 64 (32 * o.traceHead)
      let qw1 := match sp with
        | some x => traceQw1 it.tag it.fn x.num it.prio (flag it.bulk) (classCode x.entry.cls) x.region.val u
        | none => traceQw1 it.tag it.fn v.step it.prio (flag it.bulk) 0 0 u
      let op := match sp with
        | some x => (x.d.opcode, x.d.param)
        | none => (it.opcode, it.param)
      let s1 := { s with orc := { o with traceHead := (o.traceHead + 1) % size } }
      if s.hif.linkUp && (s.fn 0).port.bme then
        s1.emit (.trace 0 at_ (traceBytes (traceQw o.tick event it.qpn) qw1
          (traceQw2 op.1 op.2 v.st.code v.why.code it.flags)
          (BitVec.ofNat 64 (it.flow.toNat * 2 ^ 32 + arg % 2 ^ 32))))
      else s1
  else s

/-- A verdict for records that carry no status. -/
def Verdict.blank : Verdict := { st := .ok }

/-- The step that trace records of an item name: the step of a single item, none for a punnet (R96). -/
def Item.traceStep (it : Item) : Option Step := if it.punnet then none else it.steps.head?

/-- The unit that the records of an item name: that of a single item once it was dispatched (R96). -/
def Item.traceUnit (it : Item) : Option Nat :=
  match it.traceStep with
  | some x => if x.first.isSome then some x.unit else none
  | none => none

/-! ## Output bytes -/

/-- Open bytes (assumption 1). -/
def freeBytes (draw : Nat) (n : Nat) : List Byte := (List.range n).map (fun k => Config.freeByte (draw + k))

/-- The first 20 bytes of a blob (R297). -/
def blobHead (tenant kek len : Nat) (attr : QWord) : List Byte :=
  [1, BitVec.ofNat 8 (aType attr), BitVec.ofNat 8 (aParam attr), 0] ++ leBytes 2 len ++ leBytes 2 tenant
    ++ leBytes 2 kek ++ [0, 0] ++ leBytes 8 attr.toNat

/-- A blob (R297); what follows its first 20 bytes is open, and fixed by these, the key-encryption key and the key. -/
def blobOf (tenant kek len : Nat) (attr : QWord) (kekAt keyAt : Nat) : List Byte :=
  let h := blobHead tenant kek len attr
  h ++ (List.range (28 + len)).map (Config.wrapByte kekAt keyAt h)

/-- A blob under the key-encryption key of a tenant's slot. -/
def State.wrapped (s : State) (t kek len : Nat) (attr : QWord) (keyAt : Nat) : List Byte :=
  blobOf t kek len attr (s.slot t kek).secAt keyAt

/-- The first `n` bytes of a list of segments, and the rest. -/
def segTake : List (QWord × Nat) → Nat → List (QWord × Nat) × List (QWord × Nat)
  | [], _ => ([], [])
  | (a, l) :: t, n =>
    if n = 0 then ([], (a, l) :: t)
    else if l ≤ n then
      let r := segTake t (n - l)
      ((a, l) :: r.1, r.2)
    else ([(a, n)], (a + BitVec.ofNat 64 n, l - n) :: t)

/-- The segments after the first `n` bytes. -/
def segDrop (l : List (QWord × Nat)) (n : Nat) : List (QWord × Nat) := (segTake l n).2

/-- Write the open bytes from a place on over segments. -/
def State.writeOpen (s : State) (fn draw : Nat) : List (QWord × Nat) → State
  | [] => s
  | (a, n) :: t => (if (s.fn fn).port.bme then s.emit (.data fn a n draw) else s).writeOpen fn (draw + n) t

/-- Write open bytes over segments. -/
def State.writeFree (s : State) (fn : Nat) : List (QWord × Nat) → State
  | [] => s
  | (a, n) :: t => ((if (s.fn fn).port.bme then s.emit (.data fn a n s.free) else s).draw n).writeFree fn t

/-- Write given bytes over segments. -/
def State.writeBytes (s : State) (fn : Nat) : List (QWord × Nat) → List Byte → State
  | [], _ => s
  | (a, n) :: t, bs => (if (s.fn fn).port.bme then s.emit (.bytes fn a (bs.take n)) else s).writeBytes fn t (bs.drop n)

/-- Zeros over segments (R256). -/
def State.writeZeros (s : State) (fn : Nat) : List (QWord × Nat) → State
  | [] => s
  | (a, n) :: t => (if (s.fn fn).port.bme then s.emit (.zeros fn a n) else s).writeZeros fn t

end Sys2Proof.Machine
end

