-- ==== Sys2Proof/Machine/Microcode.lean ====
section
/-! DEFINITION. Microwords and the engine that runs them: the word maps (R140, R226), the code over them (R143, R227), operand
memory and shares (R124 to R130, R222), draws of fresh randomness (R131, R132, R225), the key register (R136 to R139, R189, R224)
and the sequencer (R141, R142). -/

namespace Sys2Proof.Machine

/-! ## The code over microwords (R143, R227) -/

/-- The columns of the data bits: the numbers from 1 to 127 that are not a power of two. -/
def eccColumns : List Nat := (List.range 128).filter (fun n => n != 0 && !(([1, 2, 4, 8, 16, 32, 64] : List Nat).contains n))

def eccColumn (j : Nat) : Nat := eccColumns.getD j 0

def parity (n : Nat) (l : Nat → Bool) : Bool := (List.range n).foldl (fun p j => p != l j) false

/-- The XOR of the columns of the data bits set. -/
def eccSyndrome (d : BitVec 64) : Nat := (List.range 64).foldl (fun x j => if d.getLsbD j then x ^^^ eccColumn j else x) 0

/-- The check byte of a segment. -/
def eccCheck (d : BitVec 64) : Byte :=
  let c := eccSyndrome d
  let p := parity 64 (fun j => d.getLsbD j) != parity 7 (fun j => c.testBit j)
  BitVec.ofNat 8 (c + 128 * flag p)

/-- What a fetch makes of a segment: clean, corrected, or detected and not corrected. -/
inductive EccOut where
  | clean | corrected | bad
deriving DecidableEq, Repr

/-- The syndrome of a segment of `n` data bits with its check byte, and whether an odd number of its bits is flipped. -/
def eccDiff (d : BitVec 64) (c : Byte) : Nat × Bool :=
  (eccSyndrome d ^^^ (c.toNat % 128), parity 64 (fun j => d.getLsbD j) != parity 8 (fun j => c.getLsbD j))

/-- The outcome for a segment of `n` data bits and its check byte: 64 in a Pip word, 56 in a Medlar word. -/
def eccOut (n : Nat) (d : BitVec 64) (c : Byte) : EccOut :=
  let x := eccDiff d c
  if x.1 = 0 ∧ !x.2 then .clean
  else if x.2 ∧ (x.1 = 0 ∨ [1, 2, 4, 8, 16, 32, 64].contains x.1 ∨ (eccColumns.take n).contains x.1) then .corrected
  else .bad

def eccFetch (d : BitVec 64) (c : Byte) : EccOut := eccOut 64 d c

/-- The segment with a single flipped bit put right. -/
def eccFix (n : Nat) (d : BitVec 64) (c : Byte) : BitVec 64 :=
  let x := eccDiff d c
  if !x.2 then d
  else match (List.range n).find? (fun j => eccColumn j == x.1) with
    | some j => d ^^^ BitVec.ofNat 64 (2 ^ j)
    | none => d

/-- The outcomes of the four segments of a microword: F stands at bits 255:0 and E at bits 287:256. -/
def wordFetch (w : BitVec 288) : List EccOut :=
  (List.range 4).map (fun k => eccFetch (w.extractLsb' (64 * k) 64) (w.extractLsb' (256 + 8 * k) 8))

/-- F of a microword as the sequencer issues it. -/
def wordFix (w : BitVec 288) : BitVec 256 :=
  let seg := fun k => eccFix 64 (w.extractLsb' (64 * k) 64) (w.extractLsb' (256 + 8 * k) 8)
  seg 3 ++ seg 2 ++ seg 1 ++ seg 0

/-- The outcomes of the two segments of a Medlar microword: F stands at bits 111:0 and E at bits 127:112 (R227). -/
def medFetch (w : BitVec 128) : List EccOut :=
  (List.range 2).map (fun k => eccOut 56 ((w.extractLsb' (56 * k) 56).setWidth 64) (w.extractLsb' (112 + 8 * k) 8))

def medFix (w : BitVec 128) : BitVec 112 :=
  let seg := fun k => (eccFix 56 ((w.extractLsb' (56 * k) 56).setWidth 64) (w.extractLsb' (112 + 8 * k) 8)).setWidth 56
  seg 1 ++ seg 0

/-! ## Word maps (R140, R226) -/

/-- One unit operation of a word: its unit, OP and destination address, and the other addresses it names. -/
structure UnitCall where
  unit : MicroUnit
  op : Nat
  dest : Nat
  others : List Nat := []
deriving DecidableEq, Repr

/-- A decoded word: the sequencer's fields, the unit operations that it starts, and the scalar selects. `bad` says that the word is a
decode fault by itself. -/
structure Word_ where
  seq : Nat
  target : Nat
  cond : Nat
  count : Nat
  safe : Bool
  masked : Bool
  calls : List UnitCall
  imm : Nat
  src : Nat
  dst : Nat
  bad : Bool
deriving DecidableEq, Repr

/-- An operand address names a row that exists (R124, R222). -/
def rowOk (cls : UnitClass) (a : Nat) : Bool := decide (a % 1024 < (if cls = .med then 768 else 640))

/-- Bits `lo + n - 1 : lo` of a field part. -/
def fieldOf {w : Nat} (f : BitVec w) (lo n : Nat) : Nat := (f.toNat >>> lo) % 2 ^ n

/-- The unit operations of a Pip word; an OP of 0 starts nothing (R140). -/
def pipCalls (f : BitVec 256) : List UnitCall :=
  ([ { unit := .vmu, op := fieldOf f 210 6, dest := fieldOf f 169 13, others := [fieldOf f 195 13, fieldOf f 182 13] },
     { unit := .kec, op := fieldOf f 162 4, dest := fieldOf f 149 13 },
     { unit := .sha, op := fieldOf f 145 4, dest := fieldOf f 132 13 },
     { unit := .gf, op := fieldOf f 126 6, dest := fieldOf f 113 13 },
     { unit := .smp, op := fieldOf f 108 5, dest := fieldOf f 95 13 },
     { unit := .pck, op := fieldOf f 90 5, dest := fieldOf f 77 13 },
     { unit := .krp, op := fieldOf f 74 3, dest := 0 },
     { unit := .xfer, op := fieldOf f 61 4, dest := fieldOf f 48 13 } ] : List UnitCall).filter (fun c => c.op != 0)

/-- A Pip word by the field map of R140. It is a decode fault by a reserved bit that is set, SEQ 0x9 to 0xF, MOD 0b11 with a VMU
operation, an address outside its bank, or the key register without MASKED (R124, R138, R140, R141). -/
def pipDecode (f : BitVec 256) : Word_ :=
  let calls := pipCalls f
  { seq := fieldOf f 252 4, target := fieldOf f 239 13, cond := fieldOf f 233 6, count := fieldOf f 221 12
    safe := f.getLsbD 220, masked := f.getLsbD 219, calls := calls
    imm := fieldOf f 32 16, src := fieldOf f 28 4, dst := fieldOf f 24 4
    bad := fieldOf f 216 3 != 0 || fieldOf f 0 24 != 0 || decide (9 ≤ fieldOf f 252 4)
      || (fieldOf f 210 6 != 0 && fieldOf f 208 2 == 3)
      || calls.any (fun c => c.unit != .krp && !((c.dest :: c.others).all (rowOk .pip)))
      || (fieldOf f 74 3 != 0 && !f.getLsbD 219) }

/-- A Medlar word by the field map of R226. Besides the faults of R140, RND_OP 0b11 is one; A and B come from the key register only
with KEY set, which is how the word names it (R227). -/
def medDecode (f : BitVec 112) : Word_ :=
  let unit := fieldOf f 76 2
  let calls : List UnitCall :=
    (if unit = 0 then [] else
      [{ unit := if unit = 1 then .mul else if unit = 2 then .add else .hash, op := fieldOf f 70 6, dest := fieldOf f 34 12
         others := if f.getLsbD 78 then [] else [fieldOf f 58 12, fieldOf f 46 12] }])
    ++ (if fieldOf f 26 4 = 0 then [] else [{ unit := .xfer, op := fieldOf f 26 4, dest := fieldOf f 14 12 }])
    ++ (if fieldOf f 12 2 = 0 then [] else [{ unit := .rnd, op := fieldOf f 12 2, dest := fieldOf f 34 12 }])
  { seq := fieldOf f 108 4, target := fieldOf f 98 10, cond := fieldOf f 92 6, count := fieldOf f 80 12
    safe := f.getLsbD 79, masked := f.getLsbD 78, calls := calls
    imm := 0, src := fieldOf f 8 4, dst := fieldOf f 4 4
    bad := fieldOf f 0 4 != 0 || decide (9 ≤ fieldOf f 108 4) || fieldOf f 12 2 == 3
      || calls.any (fun c => !((c.dest :: c.others).all (rowOk .med))) }

/-! ## Share forms (R125, R129) -/

/-- The forms of secret data in a Pip engine: arithmetic modulo q and Boolean in three shares, Boolean in two. -/
inductive ShareForm where
  | arith (q : Nat) | bool3 | bool2
deriving DecidableEq, Repr

def ShareForm.shares : ShareForm → Nat
  | .arith _ | .bool3 => 3
  | .bool2 => 2

/-- The value of a list of shares. -/
def ShareForm.combine : ShareForm → List Nat → Nat
  | .arith q, l => l.foldl (· + ·) 0 % q
  | .bool3, l | .bool2, l => l.foldl (· ^^^ ·) 0

/-- The address of share `k` of an operand in a Pip engine (R125). -/
def shareAddr (a k : Nat) : Nat := (a / 1024 + k) % 8 * 1024 + a % 1024

/-- The shares in which an opcode holds its secrets (R129, R159, R181, R189, R191, R224): two in SLH-DSA and the code-based
operations, three in the lattice operations, and the key itself in a Medlar engine. -/
def sharesOf (cls : UnitClass) (op : Nat) : Nat := if cls = .med then 1 else if 0x0131 ≤ op ∧ op ≤ 0x0156 then 2 else 3

/-- The opcode holds the key extension window (R189). -/
def usesWindow (op : Nat) : Bool := op == 0x0153

/-- What UNMASK may release in the job of an opcode (R130, R181, R191). -/
def releases (op : Nat) : List Release :=
  if op = 0x0112 ∨ op = 0x0115 then [.signature, .hint, .w1, .rejection]
  else if op = 0x0102 ∨ op = 0x0105 then [.ciphertext]
  else if op = 0x0132 ∨ op = 0x0135 then [.signature]
  else if op = 0x0131 ∨ op = 0x0134 then [.root]
  else if op = 0x0141 ∨ op = 0x0144 then [.codeS, .publicKey]
  else if op = 0x0142 ∨ op = 0x0145 then [.codeUV]
  else if op = 0x0151 ∨ op = 0x0154 then [.systematic, .publicKey]
  else if op = 0x0152 ∨ op = 0x0155 then [.codeC0]
  else if isKeygen op then [.publicKey]
  else []

/-- A hash that an SLH-DSA job runs masked (R181); `small` says that the set is an "s" set. -/
def slhMasked (small : Bool) : SlhHash → Bool
  | .prf | .forsLeaf => true
  | .chain k => decide (k < (if small then 8 else 1))
  | .other => false

/-- The "s" sets of SLH-DSA: odd PARAM codes 1, 3, 5 and their SHAKE twins (R177, R183). -/
def slhSmall (param : Nat) : Bool := setOf param % 2 == 1

/-! ## Fresh randomness (R131, R132, R225) -/

/-- Bits that a unit operation draws: masked operations, and the draws of RND_OP. -/
def drawBits (k : UnitKind) (masked : Bool) : Nat :=
  match k with
  | .shuffle => 2048
  | .keccak => if masked then 640 else 0
  | .refresh => 768
  | .boolToArith => 128
  | .arithToBool => 256
  | .boundTest => if masked then 256 else 0
  | .sample => if masked then 128 else 0
  | .sha256 _ | .sha512 _ => if masked then 256 else 0
  | .rotate => if masked then 32 else 0
  | _ => 0

/-- The size of an engine's buffer in bits. -/
def bufferBits (c : UnitClass) : Nat := if c = .med then 2048 else 4096

/-- The bits of a slice, and the engines that a generator serves: eight slices of 16 bits to a cluster, two of 32 to a pair (for the
pair: DESIGN CHOICE, assumption 61). -/
def sliceBits (c : UnitClass) : Nat := if c = .med then 32 else 16

/-- Give the slice meant for engine `i` of a block: to it, or else to the next with room, or to none. -/
def giveSlice (c : UnitClass) (i : Nat) (l : List Nat) : List Nat :=
  let n := l.length
  match (List.range n).find? (fun k => decide (l.getD ((i + k) % n) 0 + sliceBits c ≤ bufferBits c)) with
  | some k => l.set ((i + k) % n) (l.getD ((i + k) % n) 0 + sliceBits c)
  | none => l

/-- One delivery to the buffers of a block, in engine order (R132). -/
def deliver (c : UnitClass) (l : List Nat) : List Nat := (List.range l.length).foldl (fun a i => giveSlice c i a) l

/-! ## Operand memory (R124, R126, R127) -/

/-- The number of a row in an engine's operand memory. -/
def rowNo (cls : UnitClass) (a : Nat) : Nat := a / 1024 * (if cls = .med then 768 else 640) + a % 1024

/-- The dirty bit of a row: one for each 32 rows. -/
def granuleOf (cls : UnitClass) (a : Nat) : Nat := rowNo cls a / 32

/-- The rows that an operation writes from an address on, in the shares it writes. -/
def rowsFrom (cls : UnitClass) (masked : Bool) (shares a n : Nat) : List Nat :=
  let base := ((List.range n).map (a + ·)).filter (fun x => x / 1024 == a / 1024 && rowOk cls x)
  if masked && cls = .pip then (List.range shares).flatMap (fun k => base.map (fun x => shareAddr x k)) else base

/-- The 64-bit word `i` of a row of operand memory, which holds zeros where no open bytes stand. -/
def EngineCore.rowWord (c : EngineCore) (cls : UnitClass) (a i : Nat) : BitVec 64 :=
  match Tab.get 0 c.rows (rowNo cls a) with
  | 0 => 0
  | p + 1 => BitVec.ofNat 64 ((List.range 8).foldl (fun n k => n + (Config.freeByte (p + 8 * i + k)).toNat * 256 ^ k) 0)

/-- A row with its code, laid out as a microword is: every 64-bit word of operand memory carries the check byte of R143. -/
def EngineCore.rowCode (c : EngineCore) (cls : UnitClass) (a : Nat) : BitVec 288 :=
  let w := fun i => c.rowWord cls a i
  (eccCheck (w 3) ++ eccCheck (w 2) ++ eccCheck (w 1) ++ eccCheck (w 0)) ++ (w 3 ++ w 2 ++ w 1 ++ w 0)

/-- Write open bytes, from a place on, over rows. -/
def EngineCore.writeRows (c : EngineCore) (cls : UnitClass) (draw : Nat) : List Nat → EngineCore
  | [] => c
  | a :: t => ({ c with rows := Tab.put 0 c.rows (rowNo cls a) (draw + 1) }).writeRows cls (draw + 32) t

/-- The dirty bits after a write. -/
def dirtyRows (cls : UnitClass) (d : BitVec 160) (l : List Nat) : BitVec 160 :=
  l.foldl (fun x a => x ||| BitVec.ofNat 160 (2 ^ granuleOf cls a)) d

/-- Bank 6 or 7 of a Pip engine (R127). -/
def inWindow (a : Nat) : Bool := decide (6 ≤ a / 1024)

/-! ## The key register (R136, R137) -/

/-- Byte `i` of a key. -/
def KeyReg.keyByte (k : KeyReg) (i : Nat) : Byte := Config.freeByte (k.key + i)

/-- Byte `i` of a share plane: planes above 0 are fresh, and the XOR of all of them is the key (R129). -/
def KeyReg.shareByte (k : KeyReg) (p i : Nat) : Byte :=
  if p = 0 then
    (List.range (k.shares - 1)).foldl (fun x j => x ^^^ Config.freeByte (k.mask + k.len * j + i)) (k.keyByte i)
  else Config.freeByte (k.mask + k.len * (p - 1) + i)

/-- The attribute area (R136): key type, parameter set, usage bits and owning tenant. -/
def KeyReg.attributes (k : KeyReg) : List Nat := [aType k.attr, aParam k.attr, aUsage k.attr, k.tenant]

/-- The vault transfer port begins to load a key (R137): its blocks of 32 bytes are all still to be written. -/
def Cell.loadKey (c : Cell) (key : KeyReg) : Cell := { c with core := { c.core with key := { key with left := ceilDiv key.len 32 } } }

/-- The port writes one block of 32 bytes, split with 512 fresh bits unless the engine holds keys whole (R131, R137, R224): it waits
while the buffer holds fewer. A key that goes to the window marks its granules (R126). -/
def Cell.loadBlock (c : Cell) : Cell :=
  let k := c.core.key
  let need := if k.shares < 2 then 0 else 512
  if c.core.maskBits < need then c
  else
    let block := ceilDiv k.len 32 - k.left
    let rows := if k.window then (List.range k.shares).map (fun p => (6 + p) * 1024 + block) else []
    let core := { c.core with key := { k with left := k.left - 1 }, maskBits := c.core.maskBits - need }
    { c with core := core.writeRows .pip (k.mask + 32 * block) rows, dirty := dirtyRows .pip c.dirty rows }

/-! ## The sequencer (R141, R142, R144) -/

/-- What comes of a word that is to issue. -/
inductive Issue where
  /-- It issued. -/
  | next (c : Cell)
  /-- It waits for the mask buffer. -/
  | stall (c : Cell)
  /-- A decode fault, or a sequencer timeout. -/
  | fault
  /-- FAIL issued. -/
  | fail (c : Cell)

/-- The microcode that an engine runs: its family and version, the opcode and PARAM of its job. -/
structure MicroJob where
  cls : UnitClass
  family : Nat
  version : BitVec 16
  op : Nat
  param : Nat

/-- What a unit call does by its bundle (R14). -/
def MicroJob.does (j : MicroJob) (u : UnitCall) : UnitOp := Config.unitOp j.family j.version u.unit u.op

/-- The call uses the masked ports: by the word's MASKED bit, and an SLH-DSA hash by R181. -/
def MicroJob.runsMasked (j : MicroJob) (w : Word_) (k : UnitKind) : Bool :=
  w.masked || (match k with
    | .sha256 h | .sha512 h => within j.op 0x0131 0x0135 && slhMasked (slhSmall j.param) h
    | _ => false)

/-- Fresh bits that a word draws (R131); in a Medlar engine RND_OP draws 64 bits, or the words that LENSEL gives (R226). -/
def MicroJob.draws (j : MicroJob) (c : EngineCore) (w : Word_) : Nat :=
  w.calls.foldl (fun n u => n + (if u.unit = .rnd then
      (if u.op = 1 then 64 else 64 * (Tab.get 0 c.scalars w.src).toNat)
    else drawBits (j.does u).kind (j.runsMasked w (j.does u).kind))) 0

/-- A call breaks the rule of the key extension window: it writes banks 6 or 7, or names them without masked ports (R127). -/
def MicroJob.windowBad (j : MicroJob) (c : EngineCore) (w : Word_) (u : UnitCall) : Bool :=
  c.key.window && u.unit != .krp
    && ((decide (0 < (j.does u).rows) && (rowsFrom j.cls w.masked (sharesOf j.cls j.op) u.dest (j.does u).rows).any inWindow)
      || (!w.masked && (u.dest :: u.others).any inWindow))

/-- A unit operation runs: it writes its rows, a scalar register, or the flag that UNMASK releases. What the arithmetic yields is open
(R14); UNMASK writes only what the opcode releases (R130). -/
def MicroJob.run (j : MicroJob) (w : Word_) (c : Cell) (x : UnitCall × Nat) : Cell :=
  let u := j.does x.1
  let m := j.runsMasked w u.kind
  let rows := match u.kind with
    | .unmaskRows r => if (releases j.op).contains r then rowsFrom j.cls false 1 x.1.dest u.rows else []
    | .unmaskFlag _ _ => []
    | _ => rowsFrom j.cls m (sharesOf j.cls j.op) x.1.dest u.rows
  let core := c.core.writeRows j.cls x.2 rows
  let core1 := match u.kind with
    | .unmaskFlag r f =>
      if (releases j.op).contains r then
        { core with flags := (core.flags &&& ~~~(BitVec.ofNat 64 (2 ^ f.val)))
          ||| BitVec.ofNat 64 ((Config.freeByte x.2).toNat % 2 * 2 ^ f.val) }
      else core
    | .attrRead => { core with scalars := Tab.put 0 core.scalars w.dst (BitVec.ofNat 32 (core.key.attributes.getD (w.imm % 4) 0)) }
    | _ => if u.scalar then { core with scalars := Tab.put 0 core.scalars w.dst (Config.freeWord x.2) } else core
  { c with core := core1, dirty := dirtyRows j.cls c.dirty rows }

/-- The sequencer operation of a word (R141, R142): the core, or a decode fault. LOOP goes on the inner free loop counter; a COUNT of
0, which R140 does not give, repeats nothing, and WAITWORK in a job, where R141 calls it not valid, is a decode fault (DESIGN CHOICE,
assumption 61). -/
def EngineCore.sequence (c : EngineCore) (w : Word_) : Option EngineCore :=
  let on := c.pc + 1
  match w.seq with
  | 0 => some { c with pc := on }
  | 1 => some { c with pc := w.target }
  | 2 => some { c with pc := if c.flags.getLsbD w.cond then w.target else on }
  | 3 => if 8 ≤ c.stack.length then none else some { c with pc := w.target, stack := on :: c.stack }
  | 4 => match c.stack with
    | [] => none
    | a :: t => some { c with pc := a, stack := t }
  | 5 => match c.loops with
    | (a, n) :: t =>
      if a = c.pc then
        (if n = 0 then some { c with pc := on, loops := t } else some { c with pc := w.target, loops := (a, n - 1) :: t })
      else if 2 ≤ c.loops.length then none
      else if w.count ≤ 1 then some { c with pc := on }
      else some { c with pc := w.target, loops := (c.pc, w.count - 2) :: c.loops }
    | [] => if w.count ≤ 1 then some { c with pc := on } else some { c with pc := w.target, loops := [(c.pc, w.count - 2)] }
  | 7 => none
  | _ => some { c with ended := true }

/-- Issue a word (R130, R131, R138, R140 to R144): the count of cycles since the last safe point, the decode faults, the draws, the unit
operations, each on open bytes of its own from `free` on, and the sequencer operation. -/
def MicroJob.issue (j : MicroJob) (c : Cell) (w : Word_) (free : Nat) : Issue :=
  let since := if w.safe then 0 else c.core.sinceSafe + 1
  let need := j.draws c.core w
  if w.bad || w.calls.any (j.windowBad c.core w) then .fault
  else if 4096 ≤ since then .fault
  else if c.core.maskBits < need then .stall { c with core := { c.core with sinceSafe := since } }
  else
    let c0 := { c with core := { c.core with sinceSafe := since, maskBits := c.core.maskBits - need } }
    let c1 := (w.calls.zip ((List.range w.calls.length).map (fun k => free + 65536 * k))).foldl (j.run w) c0
    match c1.core.sequence w with
    | none => .fault
    | some x => if w.seq = 8 then .fail { c1 with core := x } else .next { c1 with core := x }

end Sys2Proof.Machine
end

