-- ==== Sys2Proof/Machine/Items.lean ====
section
/-! DEFINITION. The checks and reservations of an item: fragment walks (R53 to R55), descriptor, key and graph
checks (R52, R56 to R61, R74, R276), and Orchard's acceptance checks (R75, R88, R106). -/

namespace Sys2Proof.Machine

/-! ## Fragment walks (R53 to R55) -/

/-- Cut a direct buffer into fragments of 65,536 bytes (R53). -/
def cutLens (len : Nat) : List Nat :=
  if len = 0 then [0]
  else List.replicate (len / 65536) 65536 ++ (if len % 65536 = 0 then [] else [len % 65536])

/-- A list that breaks R54 by its count or its address. -/
def listBad (count : Nat) (addr : QWord) : Bool := !(within count 1 256) || addr.toNat % 16 != 0

/-- One step of a walk over the entries of a list: `lim` is IN_LEN for input, the needed length for output. -/
def walkEntry (lim : Nat) (w : Walk) (e : FragEntry) (last : Bool) : Walk :=
  if w.finished then w
  else if e.resv ≠ 0 then { w with finished := true, bad := some (.badDescriptor, .reservedSet) }
  else if e.typ = 0 then
    if within e.len.toNat 1 65536 then
      let sum := w.sum + e.len.toNat
      if !w.output && decide (lim < sum) then { w with finished := true, bad := some (.badLength, .long) }
      else
        { w with sum := sum, segs := w.segs ++ [(e.addr, e.len.toNat)]
                 finished := (w.output && decide (lim ≤ sum)) || last, next := 0 }
    else { w with finished := true, bad := some (.badDescriptor, .badFragList) }
  else if e.typ = 1 ∧ last ∧ !listBad e.len.toNat e.addr ∧ w.lists < 4096 then { w with next := e.len.toNat, at_ := e.addr }
  else { w with finished := true, bad := some (.badDescriptor, .badFragList) }

def walkList (lim : Nat) : Walk → List FragEntry → Walk
  | w, [] => w
  | w, [e] => walkEntry lim w e true
  | w, e :: f :: t => walkList lim (walkEntry lim w e false) (f :: t)

/-- The walk of a step's input or output, if one was begun. -/
def walkOf (ws : List Walk) (step : Nat) (output : Bool) : Option Walk :=
  ws.find? (fun w => w.step == step && w.output == output)

def setWalk (ws : List Walk) (w : Walk) : List Walk :=
  (ws.filter (fun x => !(x.step == w.step && x.output == w.output))) ++ [w]

/-! ## Checks -/

/-- A check passes with a value, ends the item, or waits for a fragment list. -/
inductive Chk (α : Type) where
  | ok (a : α)
  | bad (st : Status) (why : Reason)
  | wait

def Chk.bind {α β : Type} (x : Chk α) (f : α → Chk β) : Chk β :=
  match x with
  | .ok a => f a
  | .bad st why => .bad st why
  | .wait => .wait

/-- End the item with a status when a condition fails. -/
def need (c : Bool) (st : Status) (why : Reason) (k : Chk α) : Chk α := if c then k else .bad st why

/-- End the item with what a check found, if anything. -/
def passing (x : Option (Status × Reason)) (k : Chk α) : Chk α :=
  match x with
  | some (st, why) => .bad st why
  | none => k

/-- Outputs that are written: for a single item all, but for 0x0421 output 1 alone (R265); for a step those of
OUT_MASK (R59). -/
def Step.selected (st : Step) : List (Nat × OutSpec) :=
  let l := (List.range st.entry.outs.length).zip st.entry.outs
  if st.num = 0 then l.filter (fun x => !(st.d.opcode == 0x0421 && x.1 == 0))
  else l.filter (fun x => st.lk.outMask.testBit x.1)

/-- The length of an output as written: a secret one is a blob (R160). -/
def OutSpec.written (o : OutSpec) : Nat := if o.secret then o.len + 48 else o.len

/-- Bytes that a step writes at most. -/
def Step.outBytes (st : Step) : Nat := st.selected.foldl (fun n x => n + x.2.written) 0

/-- The step writes a secret output, so KEY2_HANDLE names a wrapping key (R160). -/
def Step.wraps (st : Step) : Bool := st.selected.any (fun x => x.2.secret)

/-- The attribute word and length of the key that an earlier step generates at a handle (R60, R304). -/
def pendingKey (prevs : List Step) (h : QWord) : Option (QWord × Nat) :=
  match prevs.find? (fun p => (p.dest.map (·.1) == some h && isKeygen p.d.opcode) || p.pkDest == some h) with
  | none => none
  | some p =>
    let a := genAttr p.d.opcode p.d.param p.d.opArg
    if p.pkDest == some h then some (pubAttr a, mcePk (p.d.param - 1)) else some (a, genLen p.d.opcode p.d.param)

/-- Structure checks of a step's selectors, guards, KEYSRC and OUT_MASK against the steps before it (R61, R265). -/
def graphBad (num : Nat) (lk : Link) (op param : Nat) (prevs : List Step) (me : Step) : Option (Status × Reason) :=
  let out := fun (x : Nat × Nat) => match prevs.find? (fun p => p.num == x.1) with
    | some p => p.entry.outs[x.2]?
    | none => none
  let datas := ((liveSrcs lk).filter (!selHost ·)).map (fun x => (selFrom x, selOut x))
  let ksrc := (selFrom lk.keysrc, selOut lk.keysrc)
  if !(depsOf lk).all (fun j => within j 1 (num - 1)) then some (.badDescriptor, .badGraph)
  else if !(namedValues lk).all (fun x => (out x).isSome) then some (.badDescriptor, .badSource)
  else if datas.any (fun x => ((out x).bind (·.key)).isSome) then some (.badDescriptor, .badSource)
  else if selValid lk.keysrc && (selHost lk.keysrc || ((out ksrc).bind (·.key)).isNone) then
    some (.badDescriptor, .badSource)
  else if selValid lk.keysrc && (keyMode op param == .none || keyMode op param == .dest) then
    some (.badDescriptor, .badSource)
  else if !(List.range 8).all (fun k => !lk.outMask.testBit k || decide (k < me.entry.outs.length)) then
    some (.badDescriptor, .badSource)
  else if op == 0x0421 && lk.outMask.testBit 0 then some (.badDescriptor, .badSource)
  else if me.wraps && me.d.key2 == noKey then some (.badDescriptor, .badSource)
  else none

/-- The input length of a step: its host input and the outputs it names (R60). -/
def stepInLen (lk : Link) (d : Desc) (prevs : List Step) : Nat :=
  (liveSrcs lk).foldl (fun n x => n + (if selHost x then d.inLen
    else match prevs.find? (fun p => p.num == selFrom x) with
      | some p => ((p.entry.outs[selOut x]?).map (·.len)).getD 0
      | none => 0)) 0

/-- The key an item or step uses first. -/
inductive FirstKey where
  | none
  | key (a : QWord) (len : Nat) (loc : Option Nat)
  | later
  | bad (st : Status) (why : Reason)

/-- Resolve the first key by KEYSRC or KEY_HANDLE (R56, R60, R161, R213). -/
def State.firstKey (s : State) (fn : Nat) (d : Desc) (lk : Link) (prevs : List Step) : FirstKey :=
  match keyMode d.opcode d.param with
  | .none => .none
  | .dest => .none
  | m =>
    if selValid lk.keysrc then
      match (prevs.find? (fun p => p.num == selFrom lk.keysrc)).bind (fun p => p.entry.outs[selOut lk.keysrc]?) with
      | some o => .key (o.key.getD 0) o.len none
      | none => .bad .badDescriptor .badSource
    else if d.key == noKey && m == .inline then .none
    else
      if streamsPk d.opcode && d.key != noKey && !hBad d.key && hLoc d.key != 1 then
        (if hTenant d.key != fn && !(hTenant d.key == 0 && s.isShared d.key) then .bad .keyTenant .none else .bad .keyUsage .none)
      else match s.findKey fn d.key (wantsPub d.opcode) (mayShare d.opcode d.opArg) (pendingKey prevs d.key) with
      | .attr a len => .key a len (some (hLoc d.key))
      | .hostHeld => .later
      | .bad st why => .bad st why

/-- The walk of a buffer: the segments, once every list is read (R54, R55). -/
def bufferChk (ws : List Walk) (num : Nat) (output : Bool) (frags : Nat) (addr : QWord) (len : Nat) :
    Chk (List (QWord × Nat)) :=
  if frags = 0 then .ok [(addr, len)]
  else if listBad frags addr then .bad .badDescriptor .badFragList
  else match walkOf ws num output with
    | none => .wait
    | some w =>
      match w.bad with
      | some (st, why) => .bad st why
      | none => if w.finished then .ok w.segs else .wait

/-- The count and alignment of a list that no walk reads (R54). -/
def listChk (frags : Nat) (addr : QWord) : Chk (List (QWord × Nat)) :=
  if frags ≠ 0 ∧ listBad frags addr then .bad .badDescriptor .badFragList else .ok []

def segSum (l : List (QWord × Nat)) : Nat := l.foldl (fun n x => n + x.2) 0

/-- KEY2_HANDLE as a destination, as the output PIN key or as a wrapping key (R56, R160, R161, R268, R447). -/
def State.secondBad (s : State) (fn : Nat) (d : Desc) (st : Step) (prevs : List Step) : Option (Status × Reason) :=
  let taken := fun (h : QWord) => prevs.any (fun p => p.dest.map (·.1) == some h || p.pkDest == some h)
  match st.dest with
  | some (h, loc) =>
    match s.destBad fn h loc (if d.opcode = 0x0431 then 32 else genLen d.opcode d.param) with
    | some x => some x
    | none =>
      if taken h || st.pkDest == some h then some (.keyUsage, .none)
      else if loc = 0 && isKeygen d.opcode && s.mirrors fn then some (.keyUsage, .none) else none
  | none =>
    if d.opcode = 0x0401 then
      match s.findKey fn d.key2 false false (pendingKey prevs d.key2) with
      | .bad x y => some (x, y)
      | .attr a _ => if pinKeyFits d.param a then none else some (.keyUsage, .none)
      | .hostHeld => none
    else if st.wraps then s.wrapBad fn d.key2 else none

/-- The families the firmware bundle implements its opcodes in (R343). -/
def State.families (s : State) : BitVec 16 := (if s.mp.activeB then s.mp.bankB else s.mp.bankA).families

/-- The dispatch-table entry of a step, with the lengths that its input and its key give (R73). -/
def State.entryOf (s : State) (fn num : Nat) (d : Desc) (lk : Link) (prevs : List Step) : Option OpEntry :=
  let total := if num = 0 then d.inLen else stepInLen lk d prevs
  let kp := match s.firstKey fn d lk prevs with
    | .key a _ _ => aParam a
    | _ => 1
  if s.orc.tableSet then opEntry s.families d.opcode d.param d.opArg total kp else none

/-- Every check on one descriptor or step entry that is made before Orchard's own (assumption 9). -/
def State.checkStep (s : State) (fn num : Nat) (d : Desc) (lk : Link) (prevs : List Step) (ws : List Walk) :
    Chk Step :=
  let op := d.opcode
  let total := if num = 0 then d.inLen else stepInLen lk d prevs
  let hostIn := num == 0 || (liveSrcs lk).any selHost
  let keyed := selValid lk.keysrc || d.key != noKey
  let fk := s.firstKey fn d lk prevs
  match s.entryOf fn num d lk prevs with
  | none => .bad .badOpcode .none
  | some e =>
    let st : Step := { num := num, d := d, lk := lk, entry := e }
    need (!(d.bulk && transactionOnly op)) .badOpcode .none <|
    need (!argReserved op d.param d.opArg) .badDescriptor .reservedSet <|
    passing (if num = 0 then none else graphBad num lk op d.param prevs st) <|
    need (fieldOk op d.param d.opArg total keyed
        && (op != 0x0422 || arpcLenOk d.param total (selValid lk.keysrc)) && classLenOk op total d.bulk)
      .badLength .field <|
    need (!(isTestOp op && decide (3 ≤ s.lcState))) .stateRefused (lcReason s.lcState) <|
    (if hostIn then bufferChk ws num false d.inFrags d.inAddr d.inLen else listChk d.inFrags d.inAddr).bind fun ins =>
    need (!hostIn || d.inLen ≤ segSum ins) .badLength .short <|
    need (st.outBytes ≤ d.outLen) .badLength .outShort <|
    (if st.outBytes = 0 then listChk d.outFrags d.outAddr
      else bufferChk ws num true d.outFrags d.outAddr d.outLen).bind fun outs =>
    need (st.outBytes ≤ segSum outs) .badLength .outShort <|
    passing (match fk with
      | .bad x y => some (x, y)
      | .key a len loc => if keyFits op d.param d.opArg loc a len then none else some (.keyUsage, .none)
      | _ => none) <|
    passing (match st.pkDest with
      | some h => match s.destBad fn h 1 (mcePk (d.param - 1)) with
        | some x => some x
        | none => if prevs.any (fun p => p.dest.map (·.1) == some h || p.pkDest == some h) then some (.keyUsage, .none)
          else none
      | none => none) <|
    passing (if st.wraps && d.key2 == noKey then some (.badDescriptor, .badSource) else s.secondBad fn d st prevs) <|
    let named := match fk with
      | .key a _ _ => aSecret a
      | _ => false
    let counted := match fk with
      | .key a _ _ => aCounted a
      | _ => false
    let key1 := match fk with
      | .key a _ _ => aParam a
      | _ => 0
    need (e.env != 0 || !(named || st.wraps)) .keyUsage .none <|
    (let need_ := legacyNeed op d.param d.opArg key1
     need (s.lcState != 3 || (need_ &&& s.eng.legacy.toNat) == need_) .stateRefused (lcReason 3) <|
     .ok { st with
       secret := decide (e.env ≠ 0), counted := counted
       rerun := st.dest.isNone && st.pkDest.isNone && !counted
       ins := ins
       inFrags := if d.bulk then (if ins.isEmpty || d.inFrags = 0 then cutLens d.inLen else ins.map (·.2)) else []
       segs := outs })

/-! ## Staging (R75, R190, R198, R200, R206, R256) -/

/-- Working area of Classic McEliece key generation, in bytes (R190). -/
def Step.working (st : Step) : Nat :=
  if isMceGen st.d.opcode then (if st.d.param = 1 then 1048576 else 3145728) else 0

/-- Bytes held back by an AEAD decryption of at most 4 MiB, in KiB rounded up to 64 KiB (R256). -/
def Step.holdKib (st : Step) : Nat :=
  if isAeadDec st.d.opcode && decide (st.outBytes ≤ 4194304) then 64 * ceilDiv st.outBytes 65536 else 0

/-- An output stays on chip: a result of up to 4 KiB, or a key-type value (R206). -/
def OutSpec.onChip (o : OutSpec) : Bool := decide (o.len ≤ 4096) || o.key.isSome

/-- On-chip result staging: results of up to 4 KiB and key-type values, at the lengths that OUT_LEN gives (R75, R206). A held
AEAD plaintext has the hold area alone (R256). -/
def Step.stageOnChip (st : Step) : Nat :=
  if st.holdKib ≠ 0 then 0 else st.entry.outs.foldl (fun n o => n + (if o.onChip then o.len else 0)) 0

/-- HBM staging: larger results, working areas and AEAD holds. -/
def Step.stageHbm (st : Step) : Nat :=
  (if st.holdKib ≠ 0 then 1024 * st.holdKib else st.entry.outs.foldl (fun n o => n + (if o.onChip then 0 else o.len)) 0)
    + st.working

def stageSum (f : Step → Nat) (l : List Step) : Nat := l.foldl (fun n x => n + f x) 0

/-- Staging used by accepted and unposted items. -/
def State.staged (s : State) (f : Step → Nat) : Nat :=
  (s.orc.items.filter (·.counted)).foldl (fun n it => n + stageSum f it.steps) 0

/-- HBM staging in bytes: 1.5 GiB in each region group in use (R200, R201). -/
def State.hbmStaging (s : State) : Nat :=
  ((List.range 4).filter (fun r => s.hbm.groups.getLsbD r)).length * 1610612736

/-! ## Counts -/

/-- Accepted and undispatched entries of a class (R75, R92). -/
def State.pend (s : State) (c : UnitClass) : Nat :=
  (s.orc.items.filter (fun it => it.counted && it.live)).foldl (fun n it =>
    n + (it.steps.filter (fun x => x.entry.cls == c && x.waiting && x.first.isNone)).length) 0

/-- Capacities of R75. -/
def pendCap : UnitClass → Nat
  | .pip => 32768 | .med => 8192 | .cip => 4096 | .dig => 4096

/-- The item holds a place in the delay list: a secret step of it was dispatched and has not reached its last due tick. A
punnet whose posting then falls on a public step's end frees its place (R82, R84). -/
def Item.inDelay (it : Item) : Bool := it.steps.any (fun x => x.secret && (x.phase == .running || x.phase == .staged))

/-- Items in the delay list (R82, R83, R98). -/
def State.delayCount (s : State) : Nat := (s.orc.items.filter (·.inDelay)).length

/-- Items in the entropy-wait list. -/
def State.entropyCount (s : State) : Nat :=
  (s.orc.items.filter (fun it => it.steps.any (fun x => it.serves x && (match x.phase with
    | .entropy _ _ => true
    | _ => false)))).length

/-! ## Orchard's checks (R75) -/

/-- The envelope that a dispatch of a step carries (R86, R252). -/
def Step.envNow (st : Step) : Nat := if st.d.bulk && st.entry.envFrag != 0 then st.entry.envFrag else st.entry.env

/-- A secret step whose last dispatch tick lies before a tick (R88). -/
def Step.tooLate (st : Step) (acc deadline tick : Nat) : Bool :=
  if st.secret then decide (acc + deadline < tick + st.envNow) else decide (acc + deadline < tick)

def regionsIn (s : State) : List (Fin 4) := [0, 1, 2, 3].filter (fun r => (s.region r.val).inService)

/-- Some region in service runs a family of a mask (R75, R77). -/
def State.familyServed (s : State) (mask : BitVec 16) : Bool :=
  (regionsIn s).any (fun r => mask.getLsbD (s.region r.val).family)

/-- Orchard's acceptance checks in the order of R75: the failing status, reason and step. -/
def State.orchardBad (s : State) (fn deadline : Nat) (steps : List Step) : Option (Status × Reason × Nat) :=
  let h := (s.fn fn).share
  let mask := steps.foldl (fun m x => m &&& x.entry.families) (BitVec.allOnes 16)
  let count := fun c => (steps.filter (fun x => x.entry.cls == c)).length
  if !s.familyServed mask then some (.versionMismatch, .none, 0)
  else if h.cfg.ceiling ≠ 4294967295 ∧ h.ceilAcc < 0 then some (.refusedQuota, .ceiling, 0)
  else if h.cfg.backlog ≤ h.backlog then some (.refusedQuota, .backlog, 0)
  else if classAll.any (fun c => decide (count c ≠ 0) && decide (pendCap c < s.pend c + count c)) then
    some (.refusedOverload, .deviceBacklog, 0)
  else if decide (3145728 < s.staged Step.stageOnChip + stageSum Step.stageOnChip steps)
      || decide (s.hbmStaging < s.staged Step.stageHbm + stageSum Step.stageHbm steps) then
    some (.refusedOverload, .staging, 0)
  else if deadline = 0 then none
  else match steps.find? (fun x => x.tooLate s.now deadline s.now) with
    | some x => some (.expired, .deadlineUnreachable, x.num)
    | none => none

/-- The steps of a punnet checked one after another (R57 to R61). -/
def State.checkSteps (s : State) (fn : Nat) (ws : List Walk) : Nat → List (List QWord) → List Step →
    Chk (List Step) × Nat
  | num, [], prevs => (.ok prevs, num)
  | num, e :: t, prevs =>
    if kindOf e ≠ 2 ∨ qf e 0 15 11 ≠ num then (.bad .badDescriptor .badKind, num)
    else if !stepClean e then (.bad .badDescriptor .reservedSet, num)
    else match s.checkStep fn num (stepDescOf e) (linkOf e) prevs ws with
      | .ok st => s.checkSteps fn ws (num + 1) t (prevs ++ [st])
      | .bad st why => (.bad st why, num)
      | .wait => (.wait, num)

/-- The checks on all entries of a fetched item: the steps or the failing status, with the step it names. -/
def State.checkItem (s : State) (fn : Nat) (f : Fetched) : Chk (List Step) × Nat :=
  match f.entries with
  | [] => (.wait, 0)
  | e :: t =>
    if kindOf e = 0 then
      match s.checkStep fn 0 (descOf e) {} [] f.walks with
      | .ok st => (.ok [st], 0)
      | .bad st why => (.bad st why, 0)
      | .wait => (.wait, 0)
    else if kindOf e ≠ 1 then (.bad .badDescriptor .badKind, 0)
    else if !(within (stepsOf e) 1 16) then (.bad .badDescriptor .badSteps, 0)
    else if !headerClean e then (.bad .badDescriptor .reservedSet, 0)
    else s.checkSteps fn f.walks 1 t []

end Sys2Proof.Machine
end

