-- ==== Sys2Proof/Machine/PulpCache.lean ====
section
/-! DEFINITION. The Pulp cache: lookup, insertion, promotion, eviction and invalidation (R208 to R216). -/

namespace Sys2Proof.Machine

def State.setPulp (s : State) (p : Pulp) : State := { s with pulp := p }

/-- The entries of a partition in a tier. -/
def inPart (owner : Nat) (onChip : Bool) (e : PulpEntry) : Bool := e.owner == owner && e.onChip == onChip

/-- KiB that a partition uses in a tier. -/
def pulpUse (l : List PulpEntry) (owner : Nat) (onChip : Bool) : Nat :=
  (l.filter (inPart owner onChip)).foldl (fun n e => n + e.kib) 0

/-- The clock: the first entry of the partition without its reference bit; entries passed over lose the bit and
go to the back (R212). -/
def clockVictim (owner : Nat) (onChip : Bool) : Nat → List PulpEntry → Option PulpEntry × List PulpEntry
  | 0, l => (none, l)
  | n + 1, l =>
    match l.find? (inPart owner onChip) with
    | none => (none, l)
    | some e =>
      let rest := l.erase e
      if e.ref then clockVictim owner onChip n (rest ++ [{ e with ref := false }]) else (some e, rest)

/-- Evict from the HBM tier until `kib` more fit in a quota: the entries and how many went. -/
def makeHbmRoom (owner quota kib : Nat) : Nat → List PulpEntry → List PulpEntry × Nat
  | 0, l => (l, 0)
  | n + 1, l =>
    if pulpUse l owner false + kib ≤ quota then (l, 0)
    else match clockVictim owner false (2 * l.length) l with
      | (none, l') => (l', 0)
      | (some _, l') =>
        let r := makeHbmRoom owner quota kib n l'
        (r.1, r.2 + 1)

/-- Evict from the on-chip tier until `kib` more fit, demoting each victim to the HBM tier where its quota
admits it (R212). -/
def makeChipRoom (owner chip hbm kib : Nat) : Nat → List PulpEntry → List PulpEntry × Nat
  | 0, l => (l, 0)
  | n + 1, l =>
    if pulpUse l owner true + kib ≤ chip then (l, 0)
    else match clockVictim owner true (2 * l.length) l with
      | (none, l') => (l', 0)
      | (some v, l') =>
        let l2 := l'.filter (fun e => !(inPart owner false e && e.tag == v.tag && e.scheme == v.scheme
          && e.param == v.param))
        let d := if v.kib ≤ hbm then makeHbmRoom owner hbm v.kib l2.length l2 else (l2, 0)
        let l3 := if v.kib ≤ hbm then d.1 ++ [{ v with onChip := false, ref := false }] else d.1
        let r := makeChipRoom owner chip hbm kib n l3
        (r.1, r.2 + d.2 + 1)

/-! ## Entries (R209 to R211) -/

/-- The owner of the shared pool (R210). -/
def sharedOwner : Nat := 0x8000

/-- The same key, whatever its tier, format and epoch (R208). -/
def PulpEntry.sameKey (a b : PulpEntry) : Bool :=
  a.owner == b.owner && a.tag == b.tag && a.scheme == b.scheme && a.param == b.param

/-- The 64-byte header (R210). AUTH stands in the HBM tier only; on chip its bytes are taken to be 0. -/
def PulpEntry.header (e : PulpEntry) : List Byte :=
  leBytes 16 e.tag.toNat ++ leBytes 2 e.owner ++ leBytes 1 e.scheme ++ leBytes 1 e.param
    ++ leBytes 2 (4096 * e.family + e.ver.toNat) ++ leBytes 2 e.kib ++ leBytes 4 e.epoch.toNat ++ leBytes 20 0
    ++ (match e.authAt with
      | some n => freeBytes n 16
      | none => leBytes 16 0)

/-- The entry's bytes: header, public key of `n` bytes, and the expanded form with what follows it (R209). -/
def PulpEntry.bytes (e : PulpEntry) (n : Nat) : List Byte :=
  e.header ++ freeBytes e.pkAt n ++ freeBytes e.bodyAt (1024 * e.kib - 64 - n)

/-- The entry's format and epoch are what a region's engines expect (R210). -/
def State.entryFits (s : State) (epoch : Word) (r : Fin 4) (e : PulpEntry) : Bool :=
  e.epoch == epoch && e.family == (s.region r.val).family && e.ver == Config.pulpFormat (s.region r.val).version

/-- KiB in use in a region's on-chip slice, and its size (R198, R211). -/
def State.sliceUse (s : State) (r : Fin 4) : Nat :=
  ((s.pulp.entries ++ s.pulp.shared.filterMap (·.entry)).filter (fun e => e.onChip && e.slice == r)).foldl
    (fun n e => n + e.kib) 0
def sliceKib : Nat := 4096

/-- The slice an entry goes into: the inserting engine's, else the next that has room (R211, assumption 59). -/
def State.sliceFor (s : State) (r : Fin 4) (kib : Nat) : Option (Fin 4) :=
  [r, r + 1, r + 2, r + 3].find? (fun x => decide (s.sliceUse x + kib ≤ sliceKib))

/-- Entries that have come into the HBM tier get an AUTH of their own. -/
def authAll : List PulpEntry → Nat → List PulpEntry × Nat
  | [], n => ([], n)
  | e :: t, n =>
    if e.onChip then
      let r := authAll t n
      ({ e with authAt := none } :: r.1, r.2)
    else if e.authAt.isSome then
      let r := authAll t n
      (e :: r.1, r.2)
    else
      let r := authAll t (n + 16)
      ({ e with authAt := some n } :: r.1, r.2)

/-- Store the entries of the cache, with an AUTH for every HBM entry. -/
def State.putEntries (s : State) (l : List PulpEntry) : State :=
  let r := authAll l s.free
  { s with pulp := { s.pulp with entries := r.1 }, free := r.2 }

/-- Insert an entry into a partition's tier, in place of what the tier holds of the key. An insertion of the same tick stands
(R216); an on-chip entry for which no slice has room is not inserted (assumption 59). -/
def State.pulpInsert (s : State) (e : PulpEntry) : State :=
  let t := (s.fn e.owner).ten
  let part := (s.fn e.owner).pulp
  if s.pulp.entries.any (fun x => x.sameKey e && x.onChip == e.onChip && x.epoch == e.epoch && x.put == e.put) then s
  else
    let l := s.pulp.entries.filter (fun x => !(x.sameKey e && x.onChip == e.onChip))
    let r := if e.onChip then makeChipRoom e.owner t.pulpOn (1024 * t.pulpHbm) e.kib (2 * l.length + 1) l
      else makeHbmRoom e.owner (1024 * t.pulpHbm) e.kib (l.length + 1) l
    let s1 := (s.putEntries r.1).setPulpPart e.owner { part with evicts := part.evicts + BitVec.ofNat 32 r.2 }
    if e.onChip then
      match s1.sliceFor e.slice e.kib with
      | some x => s1.putEntries (r.1 ++ [{ e with slice := x }])
      | none => s1
    else s1.putEntries (r.1 ++ [e])

/-- Make every partition fit its quotas again, by clock (R201, R214). -/
def State.pulpFit (s : State) (owner : Nat) : State :=
  let t := (s.fn owner).ten
  let part := (s.fn owner).pulp
  let l := s.pulp.entries
  let a := makeChipRoom owner t.pulpOn (1024 * t.pulpHbm) 0 (2 * l.length + 1) l
  let b := makeHbmRoom owner (1024 * t.pulpHbm) 0 (a.1.length + 1) a.1
  (s.putEntries b.1).setPulpPart owner { part with evicts := part.evicts + BitVec.ofNat 32 (a.2 + b.2) }

/-! ## Loss of contents (R214, R215) -/

/-- Remove a changed public key's on-chip entries and advance the partition's epoch (R214). -/
def State.pulpInvalidate (s : State) (owner : Nat) (tag : BitVec 128) : State :=
  let part := (s.fn owner).pulp
  (s.setPulp { s.pulp with entries := s.pulp.entries.filter (fun e =>
      !(inPart owner true e && e.tag == tag)) }).setPulpPart owner { part with epoch := part.epoch + 1 }

/-- A published key's expanded entry is lost; it stays published. -/
def Shared.lost (x : Shared) : Shared := { x with entry := none }

/-- A published key changes: its entry is lost and the pool's epoch advances; a deleted key leaves the pool (R213, R214). -/
def State.sharedLost (s : State) (h : QWord) (deleted : Bool) : State :=
  if s.pulp.shared.any (fun x => x.handle == h) then
    s.setPulp { s.pulp with
      sharedEpoch := s.pulp.sharedEpoch + 1
      shared := if deleted then s.pulp.shared.filter (fun x => x.handle != h)
        else s.pulp.shared.map (fun x => if x.handle = h then x.lost else x) }
  else s

/-- Empty a partition (R101, R214). -/
def State.pulpScrub (s : State) (owner : Nat) : State :=
  s.setPulp { s.pulp with entries := s.pulp.entries.filter (fun e => e.owner != owner) }

/-- A tier is emptied: on chip (R215), or in HBM when HBM loses its contents (R202); shared entries are to be rebuilt (R213). -/
def State.pulpDropTier (s : State) (onChip : Bool) : State :=
  s.setPulp { s.pulp with
    entries := s.pulp.entries.filter (fun e => e.onChip != onChip)
    shared := s.pulp.shared.map (fun x => if x.onChip = onChip then x.lost else x) }

/-- The whole cache is emptied and every epoch set to 0 (R215); shared entries are to be rebuilt (R213). -/
def State.pulpEmpty (s : State) : State :=
  let s1 := s.setPulp { s.pulp with entries := [], sharedEpoch := 0, shared := s.pulp.shared.map Shared.lost }
  s1.fns.foldl (fun a e => a.setPulpPart e.1 { (a.fn e.1).pulp with epoch := 0 }) s1

/-! ## The shared pool (R213) -/

/-- A vault slot or blob by its handle: the tag of its public key and its bytes. -/
def State.keyTag (s : State) (h : QWord) : BitVec 128 × Nat :=
  if hLoc h = 0 then ((s.slot (hTenant h) (hIndex h)).tagv, (s.slot (hTenant h) (hIndex h)).keyAt)
  else ((s.blob (hTenant h) (hIndex h)).tagv, (s.blob (hTenant h) (hIndex h)).keyAt)

/-- The SCHEME of a public key's type (R210), and its Pulp entry size (R209): a type without an expanded form has neither. -/
def attrScheme (a : QWord) : Nat :=
  if aType a = 0x20 then 1 else if aType a = 0x22 then 2 else if aType a = 0x24 then 3 else if aType a = 0x29 then 4 else 0
def attrKib (a : QWord) : Nat := if attrScheme a = 0 then 0 else pulpKib (attrScheme a) (aParam a)

/-- Expand a published key of an attribute word into its entry, by an engine of a region (R213). -/
def State.sharedBuild (s : State) (x : Shared) (a : QWord) (r : Fin 4) : State × Shared :=
  let g := s.region r.val
  let e : PulpEntry := { owner := sharedOwner, tag := (s.keyTag x.handle).1, scheme := attrScheme a, param := aParam a
                         family := g.family, ver := Config.pulpFormat g.version, epoch := s.pulp.sharedEpoch
                         kib := x.kib, onChip := x.onChip, ref := true, slice := r, pkAt := (s.keyTag x.handle).2
                         bodyAt := s.free, put := s.now }
  let s1 := s.draw (1024 * x.kib)
  if x.onChip then
    match s1.sliceFor r x.kib with
    | some k => (s1, { x with entry := some { e with slice := k } })
    | none => (s1, x.lost)
  else (s1.draw 16, { x with entry := some { e with authAt := some s1.free } })

/-- A lookup of a published key (R207, R210, R213): the state, and whether its HBM entry failed its authentication. An entry that
fails, or that is stale, is discarded and is to be rebuilt. -/
def State.sharedLookup (s : State) (h : QWord) (r : Fin 4) (res : JobResult) : State × Bool :=
  let s1 := s.setPulp { s.pulp with sharedHits := s.pulp.sharedHits + 1 }
  match (s.pulp.shared.find? (fun x => x.handle == h)).bind (·.entry) with
  | none => (s1, false)
  | some e =>
    let fits := s.entryFits s.pulp.sharedEpoch r e
    let bad := fits && !e.onChip && !res.pulpAuthOk
    if fits && !bad then (s1, false)
    else (s1.setPulp { s1.pulp with shared := s1.pulp.shared.map (fun x => if x.handle = h then x.lost else x) }, bad)

/-! ## Lookups (R208, R212) -/

/-- The entry that a job's expansion would insert. -/
def State.newEntry (s : State) (fn : Nat) (st : Step) (res : JobResult) (onChip : Bool) : PulpEntry :=
  let scheme := pulpScheme st.d.opcode
  let g := s.region st.region.val
  let keyed := st.d.key != noKey && hLoc st.d.key ≠ 2
  { owner := fn, tag := if keyed then (s.keyTag st.d.key).1 else res.pulpTag, scheme := scheme
    param := if scheme = 2 then setOf st.d.param else st.d.param, family := g.family, ver := Config.pulpFormat g.version
    epoch := (s.fn fn).pulp.epoch, kib := pulpKib scheme st.d.param, onChip := onChip, ref := true, slice := st.region
    pkAt := if keyed then (s.keyTag st.d.key).2 else s.free, bodyAt := s.free, put := s.now }

/-- Resolve the lookup of a job in its tenant's partition (R208, R210, R212): the state, whether it missed, and whether an HBM
entry failed its authentication (R207). The reference bit of a new entry starts at 1 (assumption 59). -/
def State.partLookup (s : State) (fn : Nat) (st : Step) (res : JobResult) : State × Bool × Bool :=
  let part := (s.fn fn).pulp
  let ten := (s.fn fn).ten
  let new := s.newEntry fn st res
  let kib := (new true).kib
  let small := decide ((new true).scheme ≠ 4) && decide (ten.pulpOn ≠ 0)
  let s0 := s.draw (1024 * kib)
  let live := fun (e : PulpEntry) => e.sameKey (new true) && s.entryFits part.epoch st.region e && e.put != s.now
  match s.pulp.entries.find? (fun e => live e && e.onChip && res.pulpSame) with
  | some e =>
    ((s.setPulp { s.pulp with entries := s.pulp.entries.map (fun x => if x = e then { x with ref := true } else x) }
      ).setPulpPart fn { part with hitsOn := part.hitsOn + 1 }, false, false)
  | none =>
    let chipBad := s.pulp.entries.any (fun e => live e && e.onChip)
    let inHbm := !chipBad && s.pulp.entries.any (fun e => live e && !e.onChip)
    if inHbm && res.pulpAuthOk && res.pulpSame then
      let s1 := s0.setPulpPart fn { part with hitsHbm := part.hitsHbm + 1 }
      (if small && decide (kib ≤ ten.pulpOn) then s1.pulpInsert (new true) else s1, false, false)
    else
      let s1 := (s0.setPulp { s0.pulp with
        entries := s0.pulp.entries.filter (fun e => !(e.sameKey (new true) && e.put != s.now)) }).setPulpPart fn
          { part with misses := part.misses + 1 }
      let s2 :=
        if small then (if kib ≤ ten.pulpOn then s1.pulpInsert (new true) else s1)
        else if ten.pulpHbm ≠ 0 ∧ kib ≤ 1024 * ten.pulpHbm then s1.pulpInsert (new false) else s1
      (s2, true, inHbm && !res.pulpAuthOk)

/-- Resolve the lookup of a job (R159, R188, R208, R212, R213): an encapsulation or a verification that comes to a result looks
its key up, a key of the shared pool there and any other in the tenant's partition. The state, whether the tenant's own
partition missed, and whether an HBM entry failed its authentication (R207). -/
def State.pulpLookup (s : State) (fn : Nat) (st : Step) (res : JobResult) : State × Bool × Bool :=
  if pulpScheme st.d.opcode = 0 ∨ (res.status ≠ .ok ∧ res.status ≠ .okFalse) then (s, false, false)
  else if st.d.key != noKey && s.isShared st.d.key then
    let p := s.sharedLookup st.d.key st.region res
    (p.1, false, p.2)
  else s.partLookup fn st res

end Sys2Proof.Machine
end

