-- ==== Sys2Proof/Machine/Vault.lean ====
section
/-! DEFINITION. The vault's commits (R287, R302 to R305) and the placing of generated keys (R161, R187, R304). -/

namespace Sys2Proof.Machine

/-- Heap units of 64 bytes that a key record takes in its two shares (R287). -/
def recordUnits (len : Nat) : Nat := 2 * ceilDiv (8 + len) 64

/-- Units of the heap of R286, and units in use. -/
def heapUnits : Nat := 60352
def State.heapUsed (s : State) : Nat := s.vlt.slots.foldl (fun n e => n + e.2.units) 0

/-- Units from `u` on are free. -/
def State.heapFree (s : State) (u n : Nat) : Bool :=
  decide (u + n ≤ heapUnits)
    && s.vlt.slots.all (fun e => e.2.units == 0 || decide (u + n ≤ e.2.loc) || decide (e.2.loc + e.2.units ≤ u))

/-- The place that a new record takes: the lowest one that is free (DESIGN CHOICE, assumption 38). -/
def State.heapPlace (s : State) (n : Nat) : Option Nat :=
  ((0 :: s.vlt.slots.map (fun e => e.2.loc + e.2.units)).filter (fun u => s.heapFree u n)).foldl
    (fun m u => some (min u (m.getD u))) none

/-- Shadow space for a new record is free (step 1 of R302). -/
def State.heapFits (s : State) (len : Nat) : Bool := (s.heapPlace (recordUnits len)).isSome

/-! ## Commit records (R303) -/

/-- Bytes 0 to 59 of a record. -/
def CommitRec.body (r : CommitRec) : List Byte :=
  leBytes 1 r.typ ++ leBytes 1 r.action ++ leBytes 2 r.tenant ++ leBytes 2 r.slot ++ leBytes 2 0 ++ leBytes 8 r.counter.toNat
    ++ leBytes 16 r.hash.toNat ++ leBytes 4 r.newLoc ++ leBytes 4 r.oldLoc ++ leBytes 8 r.seq ++ leBytes 12 0

/-- CRC-32C (PRESUMED, assumption 63): one bit, and a byte string. -/
def crcStep (c : Word) : Word := if c.getLsbD 0 then (c >>> 1) ^^^ 0x82F63B78#32 else c >>> 1
def crc32c (l : List Byte) : Word :=
  ~~~(l.foldl (fun c b => (List.range 8).foldl (fun x _ => crcStep x) (c ^^^ b.setWidth 32)) 0xFFFFFFFF#32)

/-- The CRC of a record is valid. -/
def CommitRec.valid (r : CommitRec) : Bool := r.crc == crc32c r.body

/-- Advance the commit sequence and write a record into the ring of 1,024 (steps 2 and 3 of R302). -/
def State.commitRec (s : State) (typ action t n : Nat) (counter : QWord) (hash : BitVec 128) (newLoc : Nat) : State :=
  let seq := s.vlt.seq + 1
  let old := s.slot t n
  let r : CommitRec := { typ := typ, action := action, tenant := t, slot := n, counter := counter, hash := hash
                         newLoc := newLoc, oldLoc := if old.occ then old.loc else 0xFFFFFFFF, seq := seq }
  let ring := s.vlt.ring ++ [{ r with crc := crc32c r.body }]
  s.setVlt { s.vlt with seq := seq, ring := ring.drop (ring.length - 1024) }

/-- Tell the Pulp cache that the key of a slot changes or is deleted (R214). -/
def State.keyChanges (s : State) (t n : Nat) (deleted : Bool) : State :=
  let k := s.slot t n
  if (k.occ || k.broken) && (publicTypes.contains (aType k.attr) || k.pub != 0) then
    (if t = 0 then s.sharedLost (BitVec.ofNat 64 n) deleted else s).pulpInvalidate t k.tagv
  else s

/-- What a commit puts into a slot. -/
structure NewKey where
  attr : QWord
  pub : QWord := 0
  len : Nat
  limit : Nat := 0
  keyAt : Option Nat := none
  secAt : Option Nat := none

/-- At least the length of any public key that stands in a slot. -/
def pkMax : Nat := 8192

/-- Commit a key to a slot (R302); the tag of its public key, and its bytes where no output and no engine carries them, are open. -/
def State.putKey (s : State) (typ action t n : Nat) (counter : QWord) (hash : BitVec 128) (k : NewKey) : State :=
  let loc := (s.heapPlace (recordUnits k.len)).getD 0
  let s1 := (s.keyChanges t n false).commitRec typ action t n counter hash loc
  let x : VSlot := { occ := true, attr := k.attr, pub := k.pub, counter := counter, hash := hash, uses := 0
                     limit := k.limit, loc := loc, units := recordUnits k.len, len := k.len
                     tagv := Config.freeKey s.free, keyAt := k.keyAt.getD (s.free + 1)
                     secAt := k.secAt.getD (s.free + 1 + pkMax), wseq := s1.vlt.seq, reserved := false }
  (s1.setSlot t n x).draw (1 + k.len + pkMax)

/-- Commit a new attribute word for a slot, the key unchanged (POLICY of R298). -/
def State.putPolicy (s : State) (t n : Nat) (counter : QWord) (hash : BitVec 128) (attr : QWord) : State :=
  let k := s.slot t n
  let loc := (s.heapPlace k.units).getD 0
  let s1 := (s.keyChanges t n false).commitRec 1 4 t n counter hash loc
  s1.setSlot t n { k with attr := attr, pub := if k.pub = 0 then 0 else pubAttr attr, counter := counter, hash := hash
                          loc := loc, wseq := s1.vlt.seq }

/-- Commit the deletion of a slot's key; its counter stays (R298, R302). -/
def State.deleteKey (s : State) (t n : Nat) (counter : QWord) (hash : BitVec 128) : State :=
  let s1 := (s.keyChanges t n true).commitRec 1 3 t n counter hash 0xFFFFFFFF
  s1.setSlot t n { counter := counter, hash := hash }

/-- Commit one use of a COUNTED key (R305). -/
def State.commitUse (s : State) (t n : Nat) : State :=
  let k := s.slot t n
  let s1 := s.commitRec 4 0 t n (BitVec.ofNat 64 (k.uses + 1)) 0 k.loc
  s1.setSlot t n { k with uses := k.uses + 1 }

/-- A share of a slot's key fails its tag: the slot reads as absent until it is deleted (R287; DESIGN CHOICE, assumption 62). -/
def State.breakSlot (s : State) (t n : Nat) : State :=
  let k := s.slot t n
  if k.occ then s.setSlot t n { k with occ := false, broken := true } else s

/-- A blob fails its tag, or its directory page the tree: it reads as absent (R296). -/
def State.breakBlob (s : State) (t n : Nat) : State :=
  let b := s.blob t n
  if b.occ then s.setBlob t n { b with occ := false } else s

/-- The directory of the key store changed: its hash tree has a new root, an open value (R296). -/
def State.newTree (s : State) : State := (s.setVlt { s.vlt with tree := s.free }).draw 48

/-- Put a blob into the key store (R296); where in the store it lies is open. -/
def State.putBlob (s : State) (t n : Nat) (attr pub : QWord) (len : Nat) (secAt : Option Nat := none) : State :=
  let b := s.blob t n
  ((s.setBlob t n { occ := true, attr := attr, pub := pub, len := len, version := b.version + 1
                    tagv := Config.freeKey s.free, keyAt := s.free + 1, secAt := secAt.getD (s.free + 1 + pkMax + mcePk 2)
                    loc := (Config.freeWord s.free).toNat, reserved := false }).draw (1 + len + pkMax + mcePk 2)).newTree

/-- Mark or release a destination (R304). -/
def State.reserveKey (s : State) (t : Nat) (h : QWord) (len : Nat) (on : Bool) : State :=
  if hLoc h = 0 then s.setSlot t (hIndex h) { s.slot t (hIndex h) with reserved := on }
  else
    let b := s.blob t (hIndex h)
    s.setBlob t (hIndex h) { b with reserved := on, len := if b.occ then b.len else if on then len else 0 }

/-- The destinations of a step with the lengths they reserve. -/
def Step.dests (st : Step) : List (QWord × Nat) :=
  (match st.dest with
    | some (h, _) => [(h, if st.d.opcode = 0x0431 then 32 else genLen st.d.opcode st.d.param)]
    | none => [])
  ++ (match st.pkDest with
    | some h => [(h, mcePk (st.d.param - 1))]
    | none => [])

def State.reserveSteps (s : State) (t : Nat) (on : Bool) (l : List Step) : State :=
  l.foldl (fun a st => st.dests.foldl (fun b x => b.reserveKey t x.1 x.2 on) a) s

/-- The attribute word and length of the key that a finished step places (R161, R274, R295). -/
def Step.newKey (st : Step) : QWord × Nat :=
  if st.d.opcode = 0x0431 then
    match st.res with
    | some r => (r.keyAttr, r.keyLen)
    | none => (0, 0)
  else (genAttr st.d.opcode st.d.param st.d.opArg, genLen st.d.opcode st.d.param)

/-- Commit the keys of a finished step to their slots and blobs (R304): a generated secret key is what the job left in its engine's
operand memory (R139). A Classic McEliece public key stands in its own blob and
not beside its secret key (R187). -/
def State.placeKeys (s : State) (t : Nat) (st : Step) : State :=
  let k := st.newKey
  let pub := if isKeygen st.d.opcode && st.pkDest.isNone then pubAttr k.1 else 0
  let sec := if isKeygen st.d.opcode then some st.genAt else none
  let s1 := match st.dest with
    | some (h, 0) =>
      let x := s.slot t (hIndex h)
      s.putKey 2 0 t (hIndex h) (x.counter + 1) 0 { attr := k.1, pub := pub, len := k.2, secAt := sec }
    | some (h, _) => s.putBlob t (hIndex h) k.1 pub k.2 sec
    | none => s
  match st.pkDest with
  | some h => s1.putBlob t (hIndex h) (pubAttr k.1) 0 (mcePk (st.d.param - 1))
  | none => s1

end Sys2Proof.Machine
end

