-- ==== Sys2Proof/Machine/Respond.lean ====
section
/-! DEFINITION. The mailbox response (R334 to R336, R338): what every mailbox command ends with. -/

namespace Sys2Proof.Machine

/-- The bytes of a response: the header of R335 and the payload. -/
def mbBytes (cmd : Nat) (st : Status) (why : Reason) (flags : Nat) (token : Word) (epoch : Nat) (payload : List Byte) :
    List Byte :=
  leBytes 2 cmd ++ [1, BitVec.ofNat 8 st.code, BitVec.ofNat 8 why.code, BitVec.ofNat 8 flags]
    ++ leBytes 2 payload.length ++ leBytes 4 token.toNat ++ leBytes 4 epoch ++ leBytes 16 0 ++ payload

/-- The payload of result words (R336). -/
def wordBytes (l : List QWord) : List Byte := l.foldr (fun w bs => leBytes 8 w.toNat ++ bs) []

/-- Write a response into the buffer of a function's mailbox: BUSY clears, DONE sets, and IEN sends a message
on VEC (R333, R334). -/
def State.mbRespond (s : State) (fn cmd : Nat) (token : Word) (st : Status) (why : Reason) (flags : Nat)
    (payload : List Byte) : State :=
  let m := (s.fn fn).mb
  let s1 := s.setMb fn { m with
    busy := false, done := true
    buf := Tab.putBytes [] 0 (mbBytes cmd st why flags token s.mp.epoch payload) }
  let s2 := s1.emit (.mbDone fn)
  if m.ien then s2.sendMsix fn ((s2.fn fn).clampVec m.vec.toNat) else s2

/-- The ADMIN record of a command: COMMAND, tenant and STATUS, then up to five payload words (R413; assumption 19). -/
def State.adminLog (s : State) (code tenant : Nat) (st : Status) (ws : List QWord) : State :=
  let w := code + tenant * 65536 + st.code * 2 ^ 32
  let l := ws.take 5
  s.logRecord 0x800 (leBytes 8 w ++ wordBytes l) (w :: l.map (·.toNat)) 2

/-- End the reload or region reset in progress, if any, with a status and its record (R348, R413). A request that still
waits for it is answered. -/
def State.endReload (s : State) (step : Nat) (st : Status) : State :=
  if !s.mp.rlBusy then s
  else
    let s1 := { s with mp := { s.mp with rlBusy := false, rlStep := step, rlReq := none } }
    let s2 := s1.adminLog (if s.mp.rlReset then 0x0706 else 0x0705) 0 st s.mp.rlArgs
    match s.mp.rlReq with
    | some (fn, cmd, token) => s2.mbRespond fn cmd token st .none 0 []
    | none => s2

/-! ## Frames of a replication group -/

def State.peer (s : State) (i : Nat) : Peer := Tab.get {} s.grp.peers i

/-- The members in this device's view, its own index included (R455). -/
def State.view (s : State) : List Nat :=
  if s.grp.member then (List.range 64).filter (fun i => i == s.grp.index || ((s.peer i).member && (s.peer i).inService)) else []

def State.setGrp (s : State) (g : Grp) : State := { s with grp := g }

def State.setPeer (s : State) (i : Nat) (p : Peer) : State :=
  s.setGrp { s.grp with peers := Tab.put {} s.grp.peers i p }

/-- Put a frame into the queue of a peer: TYPE, MSEQ, tenant, slot and result. -/
def State.queueFrame (s : State) (i typ : Nat) (mseq : QWord) (tenant slot result : Nat) : State :=
  let p := s.peer i
  s.setPeer i { p with outq := p.outq ++ [(typ, mseq, tenant, slot, result)] }

/-- The other members, and those of them that COMMIT goes to: in service, or being sent the state (R453, R456). -/
def State.others (s : State) : List Nat :=
  (List.range 64).filter (fun i => s.grp.member && i != s.grp.index && (s.peer i).member)

def State.commitTo (s : State) : List Nat := s.others.filter (fun i => (s.peer i).inService || (s.peer i).resync)

/-- Queue COMMIT to every member in service (step 2 of R453). -/
def State.sendCommit (s : State) (mseq : QWord) (tenant slot : Nat) : State :=
  s.commitTo.foldl (fun a i => a.queueFrame i 0x01 mseq tenant slot 0) s

end Sys2Proof.Machine
end

