-- ==== Sys2Proof/Machine/Collector.lean ====
section
/-! DEFINITION. The fault collector's records: sources and their settings (R390 to R393), events, the first fault,
cause bits and histories (R395, R400 to R404). -/

namespace Sys2Proof.Machine

/-! ## Source tables -/

/-- Severities of the chip sources 0 to 39 (R392); 9 stands for a reserved one. -/
def chipSev (n : Nat) : Nat :=
  [1, 5, 2, 2, 4, 4, 2, 1, 3, 4, 1, 1, 3, 3, 5, 2, 3, 3, 5, 4,
   2, 3, 4, 9, 3, 3, 3, 2, 3, 5, 4, 0, 2, 4, 4, 2, 1, 2, 2, 3].getD n 9

/-- Severities of a region's offsets 0 to 44 (R393). -/
def regSev (o : Nat) : Nat :=
  if o < 4 then 3 else if o < 8 then 1 else if o < 12 then 5 else if o < 20 then 2
  else if o < 24 then 3 else if o < 28 then 5
  else [1, 2, 2, 3, 3, 3, 3, 3, 3, 1, 3, 3, 3, 1, 3, 5, 2].getD (o - 28) 9

/-- The severity of a source; 9 for a reserved one (R390, R392, R393). -/
def srcSev (n : Nat) : Nat := if n < 64 then chipSev n else regSev ((n - 64) % 48)

def srcReserved (n : Nat) : Bool := srcSev n == 9

/-- The region and the offset of a region source. -/
def srcRegion (n : Nat) : Nat := (n - 64) / 48
def srcOff (n : Nat) : Nat := (n - 64) % 48

/-- The sources whose default is LOG because Rind carries out its own response. -/
def srcRind (n : Nat) : Bool := n == 29 || (decide (64 ≤ n) && srcOff n == 43)

/-- Defaults of R390. -/
def defAction (n : Nat) : Nat := if srcRind n then 0 else [0, 0, 1, 1, 3, 1].getD (srcSev n) 0
def defCap (n : Nat) : Nat := [0, 0, 3, 3, 3, 3].getD (srcSev n) 0

/-- The block of a region source: class and block number, where its name carries a cluster, pair or lane (R391). -/
def srcBlock (n : Nat) : Option (UnitClass × Nat) :=
  if n < 64 then none
  else
    let o := srcOff n
    let r := srcRegion n
    if o < 20 then some (.pip, 4 * r + o % 4)
    else if o < 28 then some (.med, 4 * r + o % 4)
    else if o = 31 ∨ o = 32 then some (.cip, r)
    else if 33 ≤ o ∧ o ≤ 36 then some (.dig, r) else none

/-- Units of a block: a cluster, a pair or a lane group (R10). -/
def blockUnits (b : UnitClass × Nat) : List Nat :=
  let k := match b.1 with
    | .pip => 8
    | .med => 2
    | .cip => 2
    | .dig => 4
  (List.range k).map (fun i => k * b.2 + i)

/-- The owning level of a source: 1 block, 2 region, 3 chip (R391). -/
def srcOwner (n : Nat) : Nat := if n < 64 then 3 else if (srcBlock n).isSome then 1 else 2

/-- Sources by name. -/
def srcPipUncorr (unit : Nat) : Nat := 64 + 48 * (unit / 32) + unit / 8 % 4
def srcMedUncorr (unit : Nat) : Nat := 64 + 48 * (unit / 8) + 20 + unit / 2 % 4
def srcUncorr (c : UnitClass) (n : Nat) : Nat :=
  match c with
  | .pip => srcPipUncorr n
  | .med => srcMedUncorr n
  | .cip => 64 + 48 * (n / 2) + 31 + n % 2
  | .dig => 64 + 48 * (n / 4) + 33 + n % 4
def srcInvar (c : UnitClass) (n : Nat) : Nat :=
  match c with
  | .pip => srcPipUncorr n + 8
  | _ => srcMedUncorr n + 4
def srcOverrun (c : UnitClass) (n : Nat) : Nat :=
  match c with
  | .pip => srcPipUncorr n + 12
  | c => 64 + 48 * unitRegion c n + 29
def srcRegionOff (r o : Nat) : Nat := 64 + 48 * r + o

/-! ## Source records -/

def State.src (s : State) (n : Nat) : SrcRec := Tab.get {} s.flt.srcs n

def State.setSrc (s : State) (n : Nat) (x : SrcRec) : State :=
  { s with flt := { s.flt with srcs := Tab.put {} s.flt.srcs n x } }

def State.srcAction (s : State) (n : Nat) : Nat := (s.src n).action.getD (defAction n)
def State.srcCap (s : State) (n : Nat) : Nat := (s.src n).cap.getD (defCap n)

/-- The grace time of an owning level (R396). -/
def State.graceOf (s : State) (owner : Nat) : Nat :=
  if owner = 1 then s.flt.graceBlk else if owner = 2 then s.flt.graceReg else s.flt.graceChip

/-! ## Histories (R402) -/

def Hist.dw0 (h : Hist) : Nat := h.seq * 65536 + h.src * 256 + h.unit
def Hist.dw1 (h : Hist) : Nat :=
  h.sev * 2 ^ 29 + h.level * 2 ^ 26 + flag h.selfCleared * 2 ^ 25 + flag h.escalated * 2 ^ 24
    + flag h.passedUp * 2 ^ 23 + h.detail.toNat
def Hist.dw2 (h : Hist) : Nat := h.tick % 2 ^ 32
def Hist.dw3 (h : Hist) : Nat := h.tick / 2 ^ 32 % 2 ^ 32

/-- Append to a queue of at most `n` entries: the queue and how many were overwritten. -/
def pushQueue (n : Nat) (l : List Hist) (h : Hist) : List Hist × Nat :=
  let l1 := l ++ [h]
  (l1.drop (l1.length - n), l1.length - n)

/-- Enter an event into the chip history, or into its region's, and write its record (R402, R413). -/
def State.pushHist (s : State) (chip : Bool) (h : Hist) : State :=
  let rec_ := fun (x : Hist) (t : State) =>
    t.logRecord 0x010 (leBytes 4 x.dw0 ++ leBytes 4 x.dw1 ++ leBytes 4 x.dw2 ++ leBytes 4 x.dw3)
      [x.src, x.unit, x.dw1] 0
  if chip then
    let x := { h with seq := s.flt.next.toNat }
    let q := pushQueue 32 s.flt.hist x
    rec_ x { s with flt := { s.flt with hist := q.1, lost := satAdd s.flt.lost q.2, next := s.flt.next + 1 } }
  else
    let r := srcRegion h.src
    let n : BitVec 16 := Tab.get 0 s.flt.regNext r
    let x := { h with seq := n.toNat }
    let q := pushQueue 8 (Tab.get [] s.flt.regHist r) x
    let lost : BitVec 16 := Tab.get 0 s.flt.regLost r
    rec_ x { s with flt := { s.flt with
      regHist := Tab.put [] s.flt.regHist r q.1
      regLost := Tab.put 0 s.flt.regLost r (satAdd lost q.2)
      regNext := Tab.put 0 s.flt.regNext r (n + 1) } }

/-! ## The PF summary (R404) and FAULT_N (R403) -/

/-- Set a bit of FLT_SUM_EVENTS; a bit newly set sends a message on VEC while IEN is 1. -/
def State.sumEvent (s : State) (bit : Nat) : State :=
  if s.flt.sumEvents.getLsbD bit then s
  else
    let s1 := { s with flt := { s.flt with sumEvents := s.flt.sumEvents ||| BitVec.ofNat 3 (2 ^ bit) } }
    if s.flt.sumIen then s1.sendMsix 0 ((s1.fn 0).clampVec s.flt.sumVec.toNat) else s1

/-- NOTIFY_PENDING: a source at NOTIFY or above has its cause bit set (R403). -/
def State.notifyPending (s : State) : Bool :=
  s.flt.srcs.any (fun e => s.flt.cause.getLsbD e.1 && decide (1 ≤ e.2.levelNow))

/-- FAULT_N is asserted (R403, R437). -/
def State.faultN (s : State) : Bool :=
  (s.pwr.shutFlag && s.pwr.held)
    || (s.pwr.main && s.flt.cfgLoaded && (s.notifyPending || decide (3 ≤ s.rnd.level) || s.rnd.alarmed))

/-- Raise the shared chip action level (R377, R395). -/
def State.raiseLevel (s : State) (l : Nat) : State :=
  if s.rnd.level < l then ({ s with rnd := { s.rnd with level := l } }).sumEvent 1 else s

/-! ## Events -/

/-- The level at which an event of a source is carried out: its ACTION, or the level reached by escalation if
that is higher (R395, R398; assumption 20). -/
def State.levelFor (s : State) (n : Nat) : Nat := max (s.srcAction n) (s.src n).levelNow

/-- Capture the first fault (R400). -/
def State.capture (s : State) (n unit : Nat) : State :=
  if s.flt.firstValid || decide (srcSev n < 2) then s
  else { s with flt := { s.flt with
    firstValid := true, firstSelf := false, firstEsc := false, firstSev := srcSev n, firstUnit := unit
    firstSrc := n, firstTick := s.now } }

/-- Record an event of a source at the level it is carried out at: cause bit, state, timers, first fault, history
and the summary (R395 to R398, R400, R404). -/
def State.noteEvent (s : State) (n unit detail : Nat) (present : Bool) : State :=
  let l := s.levelFor n
  let x := s.src n
  let timed := decide (s.srcAction n ≠ 0) && decide (1 ≤ l) && decide (l < s.srcCap n)
  let s1 := s.setSrc n { x with
    state := if x.state = 0 then 1 else x.state, present := present, levelNow := l, acked := false
    lastUnit := unit, lastDetail := detail, tick := s.now
    quietAt := s.now, grace := if timed then srcOwner n else 0
    graceAt := if timed then s.now + s.graceOf (srcOwner n) else 0 }
  let s2 := { s1 with flt := { s1.flt with cause := s1.flt.cause ||| BitVec.ofNat 256 (2 ^ n) } }
  let s3 := (s2.capture n unit).pushHist (decide (n < 64))
    { seq := 0, src := n, unit := unit, sev := srcSev n, level := l, selfCleared := false, escalated := false
      passedUp := false, detail := BitVec.ofNat 16 detail, tick := s.now }
  if 1 ≤ l then s3.sumEvent 0 else s3

/-- Mark the newest entry of a source in a queue. -/
def markNewest (n : Nat) : List Hist → List Hist
  | [] => []
  | h :: t => if h.src = n ∧ t.all (fun x => x.src != n) then { h with selfCleared := true } :: t
    else h :: markNewest n t

/-- SELF_CLEARED (R401): in the first fault and in the newest entry of the source, while the first fault is
this source's. -/
def State.selfClear (s : State) (n : Nat) : State :=
  if s.flt.firstValid && s.flt.firstSrc == n then
    let r := srcRegion n
    let inChip := decide (n < 64) || s.flt.hist.any (fun x => x.src == n && x.passedUp)
    let f := if inChip then { s.flt with hist := markNewest n s.flt.hist }
      else { s.flt with regHist := Tab.put [] s.flt.regHist r (markNewest n (Tab.get [] s.flt.regHist r)) }
    { s with flt := { f with firstSelf := true } }
  else s

/-- The condition of a source ends (R398, R401). -/
def State.presentEnds (s : State) (n : Nat) : State :=
  let x := s.src n
  if x.present then (s.setSrc n { x with present := false, quietAt := s.now }).selfClear n else s

end Sys2Proof.Machine
end

