-- ==== Sys2Proof/Machine/Contain.lean ====
section
/-! DEFINITION. Containment and the response ladder up to HALT_SECRET: units taken out of service (R393 to R395),
the loss of a region (R119), quarantine (R378, R395), HALT_SECRET (R379, R395) and the clearing of keys (R309). -/

namespace Sys2Proof.Machine

/-! ## Units -/

def regionOk (r : Nat) : Bool := decide (r < 4)

/-- Regions in service and not draining, but one. -/
def State.othersServe (s : State) (r : Nat) : Bool :=
  (List.range 4).any (fun x => x != r && (s.region x).inService && !(s.region x).draining)

/-- The block handler takes units out of service on behalf of a source (R393 to R395). Jobs under way end first. -/
def State.takeUnits (s : State) (n : Nat) (c : UnitClass) (l : List Nat) : State :=
  let l1 := l.filter (fun u => (s.cell c u).inService)
  let s1 := l1.foldl (fun a u => a.setCell c u { a.cell c u with inService := false, outFault := true, waiting := none }) s
  let x := s1.src n
  s1.setSrc n { x with out := x.out ++ l1.map (fun u => (c, u)) }

/-- No unit of any class is in service in a region (R394). -/
def State.regionDead (s : State) (r : Nat) : Bool :=
  classAll.all (fun c => (List.range (classPerRegion c)).all (fun k =>
    !(s.cell c (classPerRegion c * r + k)).inService))

/-! ## Candidates (R76, R77, R90) -/

/-- The family mask that still applies to an item. -/
def Item.mask (it : Item) : BitVec 16 :=
  match it.family with
  | some f => BitVec.ofNat 16 (2 ^ f)
  | none => it.steps.foldl (fun m x => m &&& x.entry.families) (BitVec.allOnes 16)

def State.regionTakes (s : State) (mask : BitVec 16) (r : Fin 4) (draining : Bool) : Bool :=
  let x := s.region r.val
  x.inService && x.draining == draining && mask.getLsbD x.family

/-- Regions that may take a step: those in service that do not drain, or, for a step of a punnet whose family has
no other, one that drains (R76, R77, R90). -/
def State.candidates (s : State) (it : Item) : List (Fin 4) :=
  let m := it.mask
  let a := [0, 1, 2, 3].filter (fun r => s.regionTakes m r false)
  if a.isEmpty && it.punnet && it.family.isSome then [0, 1, 2, 3].filter (fun r => s.regionTakes m r true) else a

/-! ## The loss of a region (R119) -/

/-- The end of a job that the loss of its region ends (R119). -/
def lostRes (r : Nat) : JobResult :=
  { status := .regionLost, reason := .region ⟨r % 4, Nat.mod_lt _ (by decide)⟩ }

/-- The first due tick of a secret step, inside an extension the extended one; for a bulk lane service that of the
service (R119, R120). -/
def Step.firstDue (st : Step) : Option Nat :=
  if !st.secret then none
  else if st.d.bulk && st.entry.envFrag != 0 then st.due
  else match st.first with
  | some t => some (if st.extended then t + 2 * st.envNow else t + st.envNow)
  | none => none

/-- A step dispatched to a lost region: it waits to be re-run, or its outcome is fixed. -/
def Step.afterLoss (st : Step) (r now : Nat) : Step :=
  if st.phase == .running && st.stop.isNone then
    if st.reruns = 0 ∧ (!st.secret || st.rerun) then
      { st with phase := .placed, lost := some now, lostFrom := r, reruns := 1, extended := false, due := st.firstDue, res := none }
    else if st.secret then { st with phase := .staged, res := some (lostRes r), due := st.firstDue }
    else { st with phase := .done, res := some (lostRes r), endAt := some now }
  else if st.phase == .scrub then { st with phase := .done, endAt := some now }
  else st

/-- Refund the charge of a secret dispatch that is lost with a region and re-run on another, `s` being the state with the
lost region out (R104). -/
def State.refund (s : State) (it : Item) (st : Step) : State :=
  if st.secret && it.decided.isNone && !(s.candidates it).isEmpty && st.reruns == 0 && st.rerun && st.phase == .running && st.stop.isNone && decide (st.charged ≠ 0) then
    let h := (s.fn it.fn).share
    let us : Int := Int.ofNat st.charged
    let s1 := s.setShare it.fn { h with
      commitAcc := min (h.commitAcc + us * 1000000) (Int.ofNat (h.cfg.commit * h.cfg.burst * 1000))
      ceilAcc := if h.cfg.ceiling = 4294967295 then h.ceilAcc
        else min (h.ceilAcc + us * 1000000) (Int.ofNat (h.cfg.ceiling * h.cfg.burst * 1000)) }
    if st.wdrr then
      let k := 1024 * ((classCode st.entry.cls * 4 + st.region.val) * 8 + it.prio) + it.fn
      { s1 with orc := { s1.orc with deficit := Tab.put 0 s1.orc.deficit k (Tab.get 0 s1.orc.deficit k + us) } }
    else s1
  else s

/-- An item after the loss of a region (R119): its steps, and its end if a public step cannot be re-run. -/
def Item.afterLoss (it : Item) (r now : Nat) : Item :=
  let hit := fun (st : Step) => st.region.val == r && (st.phase == .running || st.phase == .scrub)
  let ended := it.steps.find? (fun st => hit st && (st.afterLoss r now).phase == .done)
  let it1 := { it with steps := it.steps.map (fun st => if hit st then st.afterLoss r now else st) }
  match ended with
  | none => it1
  | some st =>
    let res := ((st.afterLoss r now).res.getD {})
    let v : Verdict := { st := res.status, why := res.reason, step := st.num, at_ := now }
    if !it.punnet then { it1 with decided := it1.decided.orElse (fun _ => some v) }
    else match it1.fail with
      | some _ => it1
      | none =>
        if it1.busy then { it1 with fail := some v } else { it1 with fail := some v, decided := some v }

/-- Empty a unit of a lost or reset region. -/
def Cell.cleared (k : Cell) : Cell :=
  { k with waiting := none, job := none, scrubbing := false, dirty := 0, gf := 0, core := {} }

/-- The keys of a region's clusters and Medlar engines. -/
def regionStores (r : Nat) : List Nat := [4 * r, 4 * r + 1, 4 * r + 2, 4 * r + 3, 16 + r]

/-- A flip stands in a store's inactive bank. -/
def Cluster.inactive (k : Cluster) (medlar : Bool) (a : Nat) : Bool :=
  ((if medlar then a % 2048 / 1024 else a / 8192) == 1) != k.activeB

/-- The load port begins to write the inactive bank, which is no longer valid (R149, R150). -/
def Cluster.load (k : Cluster) (medlar : Bool) : Cluster :=
  { k with loading := true, altValid := false, flips := k.flips.filter (fun e => !k.inactive medlar e.1) }

/-- A reload goes past its drain: the load begins, unless a switch back finds a valid bank (step 2 of R348). -/
def State.beginLoad (s : State) (r : Nat) : State :=
  let s1 := { s with mp := { s.mp with rlStep := 2 } }
  if s1.mp.rlBack && (s1.cluster (4 * r)).altValid then s1
  else (regionStores r).foldl (fun a k => a.setCluster k ((a.cluster k).load (decide (16 ≤ k)))) s1

/-- A region is lost without draining: it leaves service and its work is handled (R119). A reload that was
draining it goes on; one past its drain fails (R122, R348). -/
def State.regionLoss (s : State) (r : Nat) : State :=
  let x := s.region r
  if !x.inService then s
  else
    let s0 := s.setRegion r { x with inService := false }
    let s1 := s.orc.items.foldl (fun a it => it.steps.foldl (fun b st =>
      if st.region.val = r then b.refund it st else b) a) s0
    let s2 := { s1 with orc := { s1.orc with items := s1.orc.items.map (fun (it : Item) =>
      if it.decided.isSome then it else it.afterLoss r s.now) } }
    let s3 := classAll.foldl (fun a c => (List.range (classPerRegion c)).foldl (fun b k =>
      b.setCell c (classPerRegion c * r + k) (b.cell c (classPerRegion c * r + k)).cleared) a) s2
    let mine := s.mp.rlBusy && s.mp.rlRegion.val == r
    let s4 := s3.setRegion r { x with
      inService := false, draining := false, lastOut := s.now, reloading := mine && s.mp.rlStep == 1 }
    if mine && s.mp.rlStep == 1 then (if s4.mp.rlReset then { s4 with mp := { s4.mp with rlStep := 2 } } else s4.beginLoad r) else s4

/-! ## HALT_SECRET (R379, R395) -/

def faultRes (why : Reason) : JobResult := { status := .deviceFault, reason := why }

/-- A step under HALT_SECRET: a job under way is stopped and a held result is scrubbed; a due tick already
begun goes on. -/
def Step.halt (st : Step) (why : Reason) (now : Nat) : Step :=
  if st.secret && (match st.due with
      | some d => decide (now < d)
      | none => false) then
    match st.phase with
    | .running => { st with phase := .staged, res := some (faultRes why), stop := some .tamper }
    | .staged => { st with res := some (faultRes why) }
    | _ => st
  else st

/-- The step needs a key from the vault that no unit has loaded. -/
def Step.wantsVault (st : Step) : Bool :=
  st.waiting && st.svc == 0 && !selValid st.lk.keysrc
    && (keyMode st.d.opcode st.d.param == .need || keyMode st.d.opcode st.d.param == .inline)
    && !(st.d.key == noKey) && hLoc st.d.key != 2

/-- HALT_SECRET ends a step that waits: secret work, and public work that needs a key from the vault. -/
def Step.haltEnds (st : Step) : Bool := st.waiting && (st.secret || st.wantsVault)

/-- HALT_SECRET finds work of a step in the rows of R379 that end it. -/
def Step.haltHits (st : Step) (now : Nat) : Bool :=
  st.haltEnds || (st.secret && (st.phase == .running || st.phase == .staged) && (match st.due with
    | some d => decide (now < d)
    | none => false))

/-- A punnet under HALT_SECRET: its steps, with those that wait for a re-run ended. -/
def Item.haltSteps (it : Item) (why : Reason) (now : Nat) : Item :=
  { it with steps := it.steps.map (fun y =>
      if y.awaitsRerun && y.haltEnds then { y with phase := .done, endAt := some now } else y.halt why now) }

/-- An item under HALT_SECRET. A streamed AEAD decryption between services first zeros its written output. A punnet that has
already failed keeps its verdict. -/
def Item.halt (it : Item) (why : Reason) (now : Nat) : Item :=
  if it.decided.isSome || !it.counted then it
  else if it.fail.isSome then
    let it1 := it.haltSteps why now
    if it1.busy then it1 else { it1 with decided := it1.fail }
  else match it.steps.find? (fun x => x.haltHits now) with
    | none => it
    | some x =>
      let v : Verdict := { st := .deviceFault, why := why, step := x.num, at_ := now }
      if it.punnet then
        let it1 := { it.haltSteps why now with fail := some v }
        if it1.busy then it1 else { it1 with decided := some v }
      else if x.waiting then
        if isAeadDec x.d.opcode && decide (4194304 < x.outBytes) && decide (0 < x.written) then
          { it with steps := [{ x with phase := .port, zeroing := true, portLeft := x.written
                                       portAt := some (now + 1), res := some (faultRes why) }] }
        else { it with decided := some v }
      else { it with steps := [x.halt why now] }

/-- Clear every key register and key extension window. -/
def State.clearKeyRegs (s : State) : State :=
  { s with eng := { s.eng with cells := tabMap {} (fun k =>
    { k with core := { k.core with key := {} } }) s.eng.cells } }

/-- HALT_SECRET (R376, R379): secret work stops, the VEK and the key registers are cleared, and the vault makes no
transfer until the next warm or cold reset. -/
def State.halt (s : State) (why : Reason) : State :=
  let s1 := { s with orc := { s.orc with items := s.orc.items.map (fun (it : Item) => it.halt why s.now) } }
  let s2 := (s1.setVlt { s1.vlt with keysHalted := true, vek := false }).clearKeyRegs
  s2.refresh

/-! ## Quarantine (R378, R395) -/

/-- Drain a region and hold it out of service; `byRind` says for whom. One that would leave no region in service
is carried out as HALT_SECRET. -/
def State.quarantineRegion (s : State) (r : Nat) (byRind : Option Nat) (why : Reason) : State :=
  if !s.othersServe r then (s.raiseLevel 3).halt why
  else
    let x := s.region r
    let s1 := s.setRegion r { x with draining := x.inService, quarantine := x.quarantine || byRind.isNone }
    match byRind with
    | some n => s1.setSrc n { s1.src n with regionOut := true }
    | none => s1

/-- QUARANTINE on a fault source (R395): a block source drains its block, a region source its region. -/
def State.quarantineSrc (s : State) (n : Nat) : State :=
  match srcBlock n with
  | some b => s.takeUnits n b.1 (blockUnits b)
  | none => s.quarantineRegion (srcRegion n) (some n) .engineFault

/-! ## Zeroisation (R309) -/

/-- The keys that ZEROISE clears: MWK, VEK, alias keys, key-store and HBM per-boot keys, vault working memory and
every key register, with the record of the trigger, a row of R309 (R413). Membership of a group ends (R448). -/
def State.zeroiseKeys (s : State) (row : Nat) : State :=
  let s1 := (s.logWord 0x041 row 0).endGroup
  (({ s1 with nv := { s1.nv with mwk := none }, hbm := s1.hbm.noKeys }).setVlt
    { s1.vlt with vek := false, aliasKeys := false, ksKey := false, keysHalted := true }).clearKeyRegs

/-- Carry out a level for a fault source but for the warm reset that ends ZEROISE (R376, R377, R395). A level below
the one in force changes nothing else. -/
def State.carryLow (s : State) (n l : Nat) : State :=
  let now := s.rnd.level
  let s1 := s.raiseLevel l
  if l < now then s1
  else if l = 2 ∧ 64 ≤ n then (if now < 3 then s1.quarantineSrc n else s1)
  else if l < 3 then s1
  else if now < 3 then
    let s2 := s1.halt .engineFault
    if l = 3 then s2
    else
      let s3 := s2.zeroiseKeys (if l = 5 then 3 else 1)
      if l = 5 then { s3 with rnd := { s3.rnd with hold := true } } else s3
  else if l = 3 ∨ now = l then s1
  else
    let s3 := s1.zeroiseKeys (if l = 5 then 3 else 1)
    if l = 5 then { s3 with rnd := { s3.rnd with hold := true } } else s3

/-- Raise an event of a source and carry out its level, but for the reset that ends ZEROISE. A reserved source
never raises (R392, R393). -/
def State.raiseLow (s : State) (n unit detail : Nat) (present : Bool) : State :=
  if srcReserved n then s else (s.noteEvent n unit detail present).carryLow n (s.levelFor n)

/-- Raise REG_LOST for a region in service whose last unit has left, and lose the region (R394). -/
def State.checkDead (s : State) (r : Nat) : State :=
  if (s.region r).inService && s.regionDead r then (s.regionLoss r).raiseLow (srcRegionOff r 42) 0xFF 0 false else s

end Sys2Proof.Machine
end

