-- ==== Sys2Proof/Machine/Reset.lean ====
section
/-! DEFINITION. The reset levels (R116, R117, R434): function, link-down, warm and cold reset. The boot that follows a
warm or cold reset is in Boot.lean. -/

namespace Sys2Proof.Machine

/-! ## Function reset (R116 to R118) -/

/-- Drop every item of a function without a completion: reservations, flows, backlog and staging are freed. Units that run
them are stopped at their next safe point. -/
def State.dropItems (s : State) (f : Nat) : State :=
  let s1 := (s.orc.items.filter (fun it => it.fn == f && it.counted)).foldl
    (fun a it => a.reserveSteps f false it.steps) s
  let s2 := s1.setShare f { (s1.fn f).share with backlog := 0 }
  { s2 with orc := { s2.orc with
    items := s2.orc.items.filter (fun it => it.fn != f)
    flowsPassed := s2.orc.flowsPassed.filter (fun x => x.1 != f)
    msgs := s2.orc.msgs.filter (fun x => x.1 != f) }
            hbm := { s2.hbm with sealed := s2.hbm.sealed.filter (fun x =>
              !s.orc.items.any (fun it => it.fn == f && it.seq == x.seq)) }
            eng := { s2.eng with slots := s2.eng.slots.filter (fun x =>
              !s.orc.items.any (fun it => it.fn == f && it.seq == x.seq)) } }

/-- Delete every queue pair of a function. -/
def State.deleteQps (s : State) (f : Nat) : State :=
  { s with qm := { s.qm with qps := s.qm.qps.filter (fun e => e.1 / 4096 != f) } }

/-- Stop fetching and forget entries fetched and not accepted. -/
def State.unfetch (s : State) (f : Nat) : State :=
  { s with qm := { s.qm with qps := (s.qm.qps.map (fun e =>
      if e.1 / 4096 = f then (e.1, { e.2 with fetched := [], outstanding := 0, unsig := 0 }) else e)).filter (fun e =>
        e.2 != {}) } }

/-- Empty a mailbox and discard its request (R334). A reload it asked for goes on without a response, and so does a
mirror round (R457); a FW_STAGE in progress ends with its bank invalid (DEDUCED from R343, assumption 10). -/
def State.mbClear (s : State) (f : Nat) : State :=
  let s1 := s.setMb f { (s.fn f).mb with busy := false, done := false, buf := [] }
  let drop := fun (x : Option (Nat × Nat × Word)) => match x with
    | some (g, c, t) => if g = f then none else some (g, c, t)
    | none => none
  let s2 := s1.setGrp { s1.grp with
    req := if f = 0 then none else s1.grp.req
    pending := s1.grp.pending.map (fun w => if w.fn = f then { w with open_ := false } else w) }
  { s2 with mp := { s2.mp with rlReq := drop s2.mp.rlReq, actReq := drop s2.mp.actReq
                               staging := s2.mp.staging && f != 0, stage := if f = 0 then none else s2.mp.stage } }

/-- Everything of a function that a function reset takes at once (R118 step 1): items leave, pending messages and
mailbox work are discarded, and the random buffer is emptied (R326). -/
def State.fnStart (s : State) (f : Nat) : State :=
  let s1 := ((s.dropItems f).unfetch f).mbClear f
  let r := s1.fn f
  s1.setFn f { r with msix := tabMap {} (fun e => { e with pba := false }) r.msix
                      rngw := { r.rngw with buf := [] } }

/-- The rest of a function reset (R118 steps 4 and 5): queue pairs are deleted, and the MSI-X table, its mask, the BARs and the
command register return to their reset values. -/
def State.fnFinish (s : State) (f : Nat) : State :=
  let s1 := s.deleteQps f
  let r := s1.fn f
  s1.setFn f { r with msixMask := false, msix := [], rngw := { r.rngw with underrun := false }
                      port := { r.port with flrBusy := false, mse := false, bme := false, bar0 := 0, bar2 := 0, bar4 := 0 } }

/-- Functions that hold a record. -/
def State.fnList (s : State) : List Nat := s.fns.map (·.1)

/-- VF Enable is cleared: every enabled VF is reset as by FLR, at once (R37, R116). -/
def State.vfsOff (s : State) : State :=
  let s1 := s.fnList.foldl (fun a f => if f = 0 then a else (a.fnStart f).fnFinish f) s
  ({ s1 with hif := { s1.hif with vfEnable := false, vfSetAt := none } }).refresh

/-! ## Link-down (R39) -/

/-- The PF's configuration space returns to its reset values (R36, R39). -/
def Hif.cfgReset (h : Hif) : Hif :=
  { h with vfEnable := false, numVfs := 0, vfSetAt := none, vfBar0 := 0, vfBar2 := 0, ltrEnable := false, ltrMax := 0, ltrMaxNo := 0 }

/-- Fetches and DMA stop, all items and queue pairs of the functions go, with no completion, and configuration
space returns to its reset values. The SPDM responder starts anew on both transports (DESIGN CHOICE, assumption 60). -/
def State.linkDrop (s : State) : State :=
  let s1 := s.fnList.foldl (fun a f => (a.fnStart f).fnFinish f) s
  ({ s1 with hif := { s1.hif.cfgReset with
    linkUp := false, flit := false, rate := 0, width := 0, cfgReady := false
    linkSecure := false, selSecure := 0, keyed := 0, linkBroken := false }
             spdm := {}
             fns := tabMap {} (fun (r : FnRec) => { r with port := { r.port with ideSecure := false, ideBroken := false } })
               s1.fns }).refresh

/-! ## What warm and cold reset clear -/

/-- A function after warm or cold reset: its tenant configuration stays. Accounts return to their caps at cold reset alone (R105),
and a share change that waits for the tick boundary waits on at warm reset (R109). -/
def FnRec.afterReset (r : FnRec) (cold : Bool) : FnRec :=
  let cfg := r.share.next.getD r.share.cfg
  { ten := r.ten
    share := if cold then
        { cfg := cfg, commitAcc := Int.ofNat (cfg.commit * cfg.burst * 1000)
          ceilAcc := if cfg.ceiling = 4294967295 then 0 else Int.ofNat (cfg.ceiling * cfg.burst * 1000) }
      else { cfg := r.share.cfg, next := r.share.next, commitAcc := r.share.commitAcc, ceilAcc := r.share.ceilAcc }
    msixMask := if cold then false else r.msixMask
    msix := if cold then [] else tabMap {} (fun e => { e with pba := false }) r.msix
    pulp := if cold then {} else r.pulp
    port := if cold then {} else
      { mse := r.port.mse, bme := r.port.bme, ideSecure := r.port.ideSecure, ideBroken := r.port.ideBroken
        bar0 := r.port.bar0, bar2 := r.port.bar2, bar4 := r.port.bar4
        events := if r.port.ready then 2 else 0 } }

/-- A unit after warm or cold reset: out of service until its tests, with its fault count kept at warm reset, and
held out while a STUCK source holds it (R116). -/
def State.cellsAfter (s : State) (cold : Bool) : Tab Cell :=
  if cold then []
  else tabMap {} (fun k => { uncorr := k.uncorr : Cell }) s.eng.cells

/-- Fault sources after a reset: cold reset keeps the configuration alone (R406); warm reset keeps the records, and
returns what only active sources held out (R116). -/
def SrcRec.afterReset (x : SrcRec) (cold : Bool) : SrcRec :=
  if cold then { action := x.action, cap := x.cap }
  else if x.state = 2 then x else { x with out := [], regionOut := false }

/-- A group after a reset: settings and sequence numbers stay, waiting frames and rounds go. After a cold reset no
other member is in view (R448, R455). -/
def Grp.afterReset (g : Grp) (cold : Bool) : Grp :=
  { g with
    resyncing := none, pending := [], req := none, named := [], beatAt := 0, timeouts := 0, conflicts := 0, frameRej := 0
    peerSel := 0, joinOpen := false
    minority := if cold then g.member && decide (1 < g.quorum) else g.minority
    peers := tabMap {} (fun p => { p with outq := [], resync := false, inService := !cold && p.inService
                                          last := if cold then 0 else p.last }) g.peers }

/-- The sideband after a reset: its target logic, in the always-on domain, stays (R445), and the counters and the loopback of its
register window go (R458, R474; assumption 18). -/
def Sb.afterReset (b : Sb) : Sb := { b with rx := 0, tx := 0, err := 0, lpbkDepth := 0, lpbkErr := 0 }

/-- Warm and cold reset, up to the boot: the main domain but for what R116 keeps at the level. -/
def State.clearMain (s : State) (cold : Bool) : State :=
  let s0 := (s.fnList.foldl (fun a f => a.dropItems f) s).applyPolicies
  { s0 with
    fns := tabMap {} (fun r => r.afterReset cold) s0.fns
    qm := {}
    orc := { tick := if cold then 0 else s0.orc.tick, extend := if cold then 0 else s0.orc.extend
             seq := s0.orc.seq
             regions := s0.orc.regions.map (fun x =>
               { choice := x.choice, quarantine := x.quarantine, lastOut := x.lastOut
                 thermal := if cold then 0 else x.thermal }) }
    eng := { cells := s0.cellsAfter cold
             gens := if cold then [] else tabMap {} (fun g => { reseeds := g.reseeds : Gen }) s0.eng.gens
             clusters := if cold then [] else tabMap {} (fun k => { dispatch := k.dispatch : Cluster }) s0.eng.clusters
             counts := if cold then [] else s0.eng.counts
             legacy := s0.eng.legacyNext.getD s0.eng.legacy }
    hif := if cold then { buses := s0.hif.buses, ari := s0.hif.ari } else { s0.hif with lpbkDepth := 0, lpbkLane := 0, lpbkErr := 0, lpbkAddr := 0 }
    spdm := {}
    hbm := if cold then {} else { s0.hbm with corr := 0, uncorr := 0, sealFail := 0, lpbkPc := 0, lpbkDepth := 0, lpbkErr := 0 }
    pulp := if cold then { s0.pulp with integFail := 0, sharedHits := 0, sel := 0, entries := []
                                        sharedEpoch := 0, shared := s0.pulp.shared.map Shared.lost }
      else { s0.pulp with integFail := 0, sel := 0 }
    vlt := { s0.vlt with
      unsealed := false, emptyInit := false, latched := false, root := 0, replayed := 0, discarded := 0
      keysHalted := false, seqLatch := 0, reject := 0, aliasKeys := false, vek := false
      usesThisSec := 0, usesSec := 0
      blobs := if cold then [] else s0.vlt.blobs, ksKey := !cold && s0.vlt.ksKey }
    rng := { reseeds := if cold then 0 else s0.rng.reseeds }
    mp := { s0.mp with service := false, running := false, loader := false, staging := false, rlBusy := false, rlStep := 0
                       rlRegion := 0, rlBack := false, rlStart := 0, rlLimit := 0, rlReset := false, rlArgs := [], katDone := false
                       rlReq := none, actReq := none, restart := none, stage := none
                       reverted := !cold && s0.mp.reverted
                       epoch := if cold then 0 else s0.mp.epoch, restarts := if cold then 0 else s0.mp.restarts }
    lc := { s0.lc with repaired := false, testModes := false, debugOpen := false, nonce := 0, resValid := false
                       resAction := 0, resStatus := 0, resReason := 0, schedLc := none, schedWarm := none }
    rnd := { s0.rnd with level := 0, alarmed := false, stimFail := 0 }
    flt := { s0.flt with
      srcs := tabMap {} (fun x => x.afterReset cold) s0.flt.srcs
      cause := if cold then 0 else s0.flt.cause
      firstValid := !cold && s0.flt.firstValid
      firstSelf := !cold && s0.flt.firstSelf, firstEsc := !cold && s0.flt.firstEsc
      firstSev := if cold then 0 else s0.flt.firstSev, firstUnit := if cold then 0 else s0.flt.firstUnit
      firstSrc := if cold then 0 else s0.flt.firstSrc, firstTick := if cold then 0 else s0.flt.firstTick
      firstLatch := 0, hist := if cold then [] else s0.flt.hist, next := if cold then 0 else s0.flt.next
      lost := if cold then 0 else s0.flt.lost, regHist := if cold then [] else s0.flt.regHist
      regNext := if cold then [] else s0.flt.regNext, regLost := if cold then [] else s0.flt.regLost
      histLatch := [0, 0, 0], recovTotal := if cold then 0 else s0.flt.recovTotal
      sumVec := 0, sumIen := false, sumEvents := 0, cfgLoaded := false }
    log := { s0.log with ready := !cold && s0.log.ready, gen := if cold then 0 else s0.log.gen
                         dropped := if cold then 0 else s0.log.dropped, page := if cold then 0 else s0.log.page }
    pwr := { s0.pwr with state := 0, p1 := false, ltr := if cold then 0 else s0.pwr.ltr
                         resP2 := if cold then 0 else s0.pwr.resP2, resP3 := if cold then 0 else s0.pwr.resP3
                         resP4 := if cold then 0 else s0.pwr.resP4, enteredAt := 0, idleSince := 0, exiting := false
                         rootLock := !cold && s0.pwr.rootLock, hbm0Lock := !cold && s0.pwr.hbm0Lock
                         hbm1Lock := !cold && s0.pwr.hbm1Lock
                         avs := if cold then 750 else s0.pwr.avs, avsLimit := !cold && s0.pwr.avsLimit }
    grp := s0.grp.afterReset cold
    sb := s0.sb.afterReset
    tap := (s0.keepSram (fun a _ => !cold && a != .pipOperand && a != .medOperand && a != .queueOrchard)).tap }

/-- Cold reset: everything volatile is lost (R116, R434). The main domain stays down until a boot. -/
def State.coldClear (s : State) : State := s.clearMain true

end Sys2Proof.Machine
end

