-- ==== Sys2Proof/Machine/Boot.lean ====
section
/-! DEFINITION. The boot that follows a reset (R435), as one step with what it meets outside the logic in `BootIn`
(assumption 13): life cycle (R356, R358 to R362), ledger (R415, R417), entropy (R323), Rind (R381, R385), vault (R289,
R303), HBM (R201), firmware (R344, R478), tests and regions (R116, R150). -/

namespace Sys2Proof.Machine

/-! ## Life cycle (R355 to R362) -/

/-- The intent and state rows of a target state 2 to 5 (R355). -/
def intentRow (t : Nat) : Nat := 2 * (t - 2)
def stateRow (t : Nat) : Nat := 2 * (t - 2) + 1

def setRow (b : Byte) (r : Nat) : Byte := b ||| BitVec.ofNat 8 (2 ^ r)

def State.burnRow (s : State) (r : Nat) : State :=
  { s with lc := { s.lc with started := setRow s.lc.started r, complete := setRow s.lc.complete r } }

/-- The highest interrupted transition (R356). -/
def State.interrupted (s : State) : Option Nat :=
  [5, 4, 3, 2].find? (fun t =>
    (rowBit s.lc.started (stateRow t) || rowBit s.lc.started (intentRow t)) && !rowBit s.lc.complete (stateRow t))

/-- Every allotment, share and policy back to its value on an empty tenant configuration area (R103, R476). -/
def FnRec.wiped (r : FnRec) (f : Nat) : FnRec :=
  if f = 0 then { r with ten := Tenant.zero, share := { cfg := ShareCfg.tenant0 } }
  else { r with ten := {}, share := {} }

/-- The tenant configuration area is wiped (R362). -/
def State.wipeTenants (s : State) : State :=
  { s with
    fns := (s.fns.map (fun e => (e.1, e.2.wiped e.1))).filter (fun e => e.2 != {})
    eng := { s.eng with legacy := 0, legacyNext := none }
    nv := { s.nv with perso := 0, spread := true }
    flt := { s.flt with
      srcs := tabMap {} (fun x => { x with action := none, cap := none }) s.flt.srcs
      graceBlk := 100, graceReg := 1000, graceChip := 10000, quiet := 1000, recWindow := 3600, recCount := 3 }
    pwr := { s.pwr with deepest := 3, idleP2 := 100, idleP3 := 10, idleP4 := 60 }
    pulp := { s.pulp with resOn := 0, resHbm := 0, tier := 32, shared := [] }
    orc := { s.orc with regions := s.orc.regions.map (fun x => { x with choice := none }) } }

/-- The wipe of a target state (R362, R276). -/
def State.wipe (s : State) (t : Nat) : State :=
  let s1 := { s with nv := { s.nv with mwk := none, headerMwk := none, headerRoot := 0 } }
  if t = 2 then s1
  else if t = 3 then { s1 with eng := { s1.eng with legacy := 0, legacyNext := none } }
  else
    let s2 := (s1.setVlt { s1.vlt with slots := [], ring := [], importIds := [], checkpoint := 0 }).wipeTenants
    if t = 4 then s2
    else { s2 with
      mp := { s2.mp with bankA := {}, bankB := {}, activeB := false, trial := false }
      nv := { s2.nv with dusIntact := false, sbInstance := 0, sbInstanceSet := false, trim := none }
      rnd := { s2.rnd with cfg := [], tlow := 0xD8, thigh := 0x7D, tampPol := 0 }
      log := {} }

/-- Burn a transition: intent row, wipe, state row (steps 2 and 4 of R360). -/
def State.transition (s : State) (t : Nat) : State := ((s.burnRow (intentRow t)).wipe t).burnRow (stateRow t)

/-- A row whose burn was cut short is started. -/
def State.startRow (s : State) (r : Nat) : State := { s with lc := { s.lc with started := setRow s.lc.started r } }

/-- What a transition leaves when main power is lost in its intent burn, its wipe or its state burn (R370). Nothing runs until
the next boot wipes again, so a wipe cut short stands as not begun (assumption 22). -/
def State.transitionCut (s : State) (t : Nat) (cut : Fin 3) : State :=
  if cut = 0 then s.startRow (intentRow t)
  else if cut = 1 then s.burnRow (intentRow t)
  else ((s.burnRow (intentRow t)).wipe t).startRow (stateRow t)

/-- A transition, whole or cut short. -/
def State.moveTo (s : State) (t : Nat) (cut : Option (Fin 3)) : State :=
  match cut with
  | none => s.transition t
  | some c => s.transitionCut t c

/-- The signer that R358 asks of a transition or debug token; 0 refuses the pair. -/
def tokenSigner (action frm dst : Nat) : Nat :=
  if action = 1 then
    if frm = 1 ∧ (dst = 2 ∨ dst = 5) then 1
    else if frm = 2 ∧ (dst = 3 ∨ dst = 4 ∨ dst = 5) then 2
    else if frm = 3 ∧ (dst = 4 ∨ dst = 5) then 2
    else if frm = 4 ∧ dst = 5 then 1 else 0
  else if frm ≠ dst then 0
  else if action = 2 then (if frm = 1 ∨ frm = 4 then 1 else if frm = 2 then 2 else 0)
  else if action = 3 then (if frm = 1 ∨ frm = 4 then 1 else if frm = 2 ∨ frm = 3 then 2 else 0)
  else 0

/-- The checks 1 to 3 of R359 on a token against a nonce: the failing status and reason. -/
def State.tokenBad (s : State) (k : Token) (nonce : BitVec 128) : Option (Status × Reason) :=
  if k.len ≠ 7540 then some (.badLength, .field)
  else if k.format ≠ 1 ∨ k.deviceId ≠ Config.deviceId ∨ k.nonce ≠ nonce ∨ nonce = 0 then some (.badRange, .none)
  else if k.frm ≠ s.lcState ∨ tokenSigner k.action k.frm k.toLc = 0 ∨ tokenSigner k.action k.frm k.toLc ≠ k.signer
      ∨ (k.action = 1 ∧ k.toLc = 2 ∧ k.newIkh = 0) then
    some (.stateRefused, lcReason s.lcState)
  else none

/-- The signature and layout checks of R357 (assumption 22). -/
def State.tokenSigsOk (s : State) (k : Token) : Bool :=
  k.resvZero && k.sigsOk && (k.signer == 1 || (s.lc.ikhSet && k.pkHash == s.lc.ikh))
    && (k.newIkh == 0 || (k.action == 1 && k.toLc == 2))

/-- The configuration in force of a group: LOG while none is loaded (R381). -/
def State.grpCfg (s : State) (g : Nat) : Word :=
  if s.rnd.configValid then Tab.get 0x21000001 s.rnd.cfg g else 0x01000001

/-- The ladder action of a group (R376, R388). -/
def State.grpAction (s : State) (g : Nat) : Nat := bitsOf (s.grpCfg g).toNat 31 29

/-- A Rind alarm stands: an alarm at HALT_SECRET or above, HOLD, or a latched high entry (R385). -/
def State.highAlarm (s : State) : Bool :=
  (List.range 30).any (fun g => s.rnd.alarm.getLsbD g && decide (3 ≤ s.grpAction g)) || s.rnd.hold
    || s.rnd.latch.any (fun e => decide (3 ≤ e.action))

/-- Step 3 of R360: the buffered token, checked. What it gives is recorded and the buffer is emptied. A FIELDED device refuses every
DEBUG token; one that has left FIELDED for RETURNED does not (R364; DEDUCED, assumption 22). -/
def State.checkToken (s : State) (k : Token) : State × Bool :=
  let r := if k.action = 2 ∧ s.lcState = 3 then some (.stateRefused, lcReason 3) else match s.tokenBad k s.lc.retained with
    | some x => some x
    | none =>
      if !s.tokenSigsOk k then some (.badFormat, .none)
      else if s.highAlarm then some (.deviceFault, .tamper)
      else none
  let st := match r with
    | some (x, _) => x.code
    | none => 0
  let why := match r with
    | some (_, y) => y.code
    | none => 0
  ({ s with lc := { s.lc with token := none, resValid := true, resAction := k.action, resStatus := st
                              resReason := why } }, r.isNone)

/-- What the life-cycle steps of a boot did: the state after them, and the transitions as (from, to, signer,
repaired) for the ledger. A DEBUG token takes effect only at cold or life-cycle reset (R363). -/
def State.lifeCycle (s : State) (cold : Bool) (cut : Option (Fin 3)) : State × List (Nat × Nat × Nat × Nat) :=
  let frm := s.lcState
  let a := match s.interrupted with
    | some t =>
      let x := s.moveTo t cut
      ({ x with lc := { x.lc with repaired := decide (t ≠ 5) } }, [(frm, t, 0, 1)])
    | none => (s, [])
  let s1 := a.1
  if s1.scrapped || (cut.isSome && !a.2.isEmpty) then a
  else match s1.lc.token with
    | none => a
    | some k =>
      if k.action = 3 ∨ (k.action = 2 ∧ !cold) then a
      else
        let c := s1.checkToken k
        if !c.2 then (c.1, a.2)
        else if k.action = 2 then
          ({ c.1 with lc := { c.1.lc with debugOpen := true, testModes := k.signer == 1 } }, a.2)
        else
          let x := c.1.moveTo k.toLc cut
          let y := if k.toLc = 2 then { x with lc := { x.lc with ikh := k.newIkh, ikhSet := true } } else x
          (y, a.2 ++ [(k.frm, k.toLc, k.signer, 0)])

/-! ## Ledger and latch at boot (R413, R416, R417) -/

def State.lcBits (s : State) : Nat := flag s.lc.repaired * 4 + flag s.lc.testModes * 2 + flag s.lc.debugOpen

/-- LC_LAST_RESULT (R368). -/
def State.lcResult (s : State) : Nat :=
  flag s.lc.resValid * 2 ^ 31 + s.lc.resAction * 65536 + s.lc.resStatus * 256 + s.lc.resReason

/-- A latch entry as a word (R384). -/
def Latch.word (e : Latch) : Nat :=
  e.group * 2 ^ 59 + e.action * 2 ^ 56 + e.supply * 2 ^ 54 + e.count * 2 ^ 32 + e.sec

/-- The newest RIND_LATCH record that the ledger still holds has this body (R417). -/
def State.latchWritten (s : State) (cmp : List Nat) : Bool :=
  match s.log.newestLatch with
  | some (off, c) => c == cmp && (decide (off < 0x40000) || s.log.recs.any (fun r => r.2.1 == off))
  | none => false

/-- Transfer the latch (R417). -/
def State.moveLatch (s : State) : State :=
  if s.rnd.latch.isEmpty && s.rnd.latchOvf == 0 then s
  else
    let ws := s.rnd.latch.map Latch.word
    let body := leBytes 4 s.rnd.latch.length ++ leBytes 4 s.rnd.latchOvf.toNat ++ ws.foldr (fun w l => leBytes 8 w ++ l) []
    let cmp := s.rnd.latch.length :: s.rnd.latchOvf.toNat :: ws
    let s1 := if s.latchWritten cmp then s else s.logRecord 0x021 body cmp 1
    { s1 with rnd := { s1.rnd with latch := [], latchOvf := 0 } }

/-- The ledger scan and the first records of a boot, in the order of R417. The founding area opens with the boot
that completes the transition into INTEGRATOR (R416). -/
def State.bootRecords (s : State) (cause : Nat) (moved : List (Nat × Nat × Nat × Nat)) : State :=
  let opens := moved.any (fun x => x.2.1 == 2) && !s.log.foundOpen && !s.log.foundClosed
  let s1 := { s with log := { s.log with ready := true, foundOpen := s.log.foundOpen || opens } }
  let s2 := s1.logWord 0x001 (cause + s.lcState * 256 + flag s.mp.activeB * 65536 + s.lcBits * 2 ^ 24) 1
  let s3 := moved.foldl (fun a x =>
    a.logWord 0x030 (x.1 + x.2.1 * 256 + x.2.2.1 * 65536 + x.2.2.2 * 2 ^ 24) 1) s2
  let s4 := if s3.lc.resValid then s3.logWord 0x031 s3.lcResult 1 else s3
  s4.moveLatch

/-! ## Entropy (R313, R315 to R317, R323) -/

def State.setSource (s : State) (i : Nat) (x : Src) : State :=
  { s with rng := { s.rng with srcs := s.rng.srcs.set i x } }

/-- One failed test of a source, recorded (R316): source, test, and runs. -/
def State.sourceFail (s : State) (i test runs : Nat) : State :=
  let x := s.rng.srcs.getD i {}
  let s1 := s.setSource i { x with fails := satSucc x.fails }
  (s1.logWord 0x050 (i + test * 256 + runs * 65536) 0).raiseLow 20 i test false

/-- The start-up runs of one source: `n` failures, then a pass, or DEAD after 8 (R315, R317). -/
def State.startSource (s : State) (i n : Nat) : State :=
  let m := min n 8
  let s1 := (List.range m).foldl (fun a k => a.sourceFail i 2 (k + 1)) s
  let x := s1.rng.srcs.getD i {}
  if m = 8 then
    (s1.setSource i { x with ok := false, failed := true, dead := true, startup := false, runs := 8 }).raiseLow 21 i 0 false
  else s1.setSource i { x with ok := true, failed := false, runs := 0, startup := false, dead := false }

/-- Give a generator the 384 bits of a new seed and nonce; its count of blocks starts anew (R133, R134). -/
def State.seedGen (s : State) (k : Nat) (reseed : Bool) : State :=
  let g := s.gen k
  (s.setGen k { g with seeded := true, pastLimit := false, failing := false, pending := false, seed := s.free
                       blocks := 0, since := s.now, last := s.now
                       reseeds := if reseed then g.reseeds + 1 else g.reseeds }).draw 48

/-- Seed every Zest and blinding generator (R134, R225, R323). A seeding at an instantiation of the DRBG does not count in
ZST_RESEEDS: R153 counts reseeds (DESIGN CHOICE, assumption 43). -/
def State.seedAll (s : State) : State := (List.range 32).foldl (fun a k => a.seedGen k false) s

/-- The entropy start-up of R323 from step 2; `runs` are the failed start-up runs of each source. -/
def State.startEntropy (s : State) (runs : List Nat) (katOk : Bool) : State :=
  let s1 := (List.range 3).foldl (fun a i => a.startSource i (runs.getD i 0)) s
  let good := s1.rng.srcs.all (·.ok)
  if !katOk then
    ({ s1 with rng := { s1.rng with katOk := false, ready := false } }.logWord 0x050 (3 * 256) 0).raiseLow 22 0xFF 0 false
  else if good then
    ({ s1 with rng := { s1.rng with
      katOk := true, ready := true, drbgFailed := false, pool := 0, demand := false, last := s1.now
      perso := s1.nv.perso } }).seedAll
  else { s1 with rng := { s1.rng with katOk := true, ready := false, drbgFailed := true } }

/-! ## The vault (R285, R289, R291, R303, R306) -/

/-- The reseed that the management processor asks for before it generates an MWK or an import key (R320): a block of the pool, or
the next block, whose wait of 24 µs the command covers (assumption 43). One reseed serves what waits for it (R330). -/
def State.mpReseed (s : State) : State :=
  { s with rng := { s.rng with pool := s.rng.pool - 1, demand := false, last := s.now, reseeds := s.rng.reseeds + 1 } }

/-- Draw an import key into slot 0 of a tenant (R291). -/
def State.newImportKey (s0 : State) (t : Nat) : State :=
  let s := s0.mpReseed
  let a := attrWord 0x21 0x04 uImport true
  let s1 := s.setVlt { s.vlt with importIds := Tab.put 0 s.vlt.importIds t (Config.freeKey s.free) }
  (s1.draw 1).putKey 2 0 t 0 ((s.slot t 0).counter + 1) 0 { attr := a, pub := pubAttr a, len := kemDk 2 }

/-- The slots of a tenant that hold something. -/
def State.tenantSlots (s : State) (t : Nat) : List Nat :=
  (s.vlt.slots.filter (fun e => e.1 / 8192 == t)).map (fun e => e.1 % 8192)

/-- An empty initialisation (step 3 of R289): a new MWK, header and directory; group membership ends (R448). -/
def State.emptyInit (s : State) (cause : Nat) : State :=
  let gen := s.nv.mwkGen + 1
  let s0 := s.endGroup.mpReseed
  let s1 := { s0 with
    nv := { s0.nv with mwkGen := gen, mwk := some gen, headerMwk := some gen, headerRoot := s0.lcState } }
  (s1.setVlt { s1.vlt with emptyInit := true, slots := [], importIds := [], ring := [], checkpoint := s1.vlt.seq }).logWord 0x040 cause 1

/-- Replay the commit ring (R303). Commits of the model are whole, so the directory already holds what a replay
completes; `torn` is one more record that a power failure left without a valid CRC, which is discarded. -/
def State.replay (s : State) (torn : Bool) : State :=
  let n := (s.vlt.ring.filter (fun r => r.valid && decide (s.vlt.checkpoint < r.seq))).length
  let d := (s.vlt.ring.filter (fun r => !r.valid)).length + flag torn
  s.setVlt { s.vlt with
    replayed := satAdd 0 n, discarded := satAdd 0 d, ring := s.vlt.ring.filter (·.valid)
    checkpoint := s.vlt.seq }

/-- An import key for every tenant that has none (R289, R291). -/
def State.importKeys (s : State) : State :=
  s.fnList.foldl (fun a t => if (a.fn t).ten.st != .notCreated && !(a.slot t 0).occ then a.newImportKey t else a) s

/-- Unseal the vault (R289). `changed` says that this boot entered a new life-cycle state. -/
def State.unseal (s : State) (changed headerOk torn : Bool) : State :=
  if s.scrapped || !s.rng.ready then s
  else
    let root := s.lcState
    let same := s.nv.headerRoot == root && s.nv.headerMwk == s.nv.mwk && headerOk
    let s1 := if s.nv.mwk.isSome && same then s.replay torn
      else s.emptyInit (if changed then 3 else if s.nv.mwk.isNone then 1 else 2)
    let s2 := s1.importKeys
    s2.setVlt { s2.vlt with unsealed := true, root := root, vek := !s2.vlt.keysHalted }

/-- A rate and width to which the port trains (R20, R42). -/
def trains (rate : BitVec 4) (width : BitVec 5) : Bool :=
  within rate.toNat 2 4 && [1, 2, 4, 8, 16].contains width.toNat

/-! ## HBM (R200 to R202, R205) -/

def groupLost (pcs : QWord) (g : Nat) : Nat := ((List.range 16).filter (fun k => pcs.getLsbD (16 * g + k))).length

/-- Region groups in use: those that lost at most four pseudo-channels. -/
def groupsUp (pcs : QWord) : BitVec 4 :=
  BitVec.ofNat 4 ((List.range 4).foldl (fun n g => n + (if groupLost pcs g ≤ 4 then 2 ^ g else 0)) 0)

/-- The Pulp HBM tier in MiB after mapping-out: each group's quarter less 768 MiB for each loss (R201). -/
def State.tierMib (s : State) : Nat :=
  (List.range 4).foldl (fun n g => n +
    (if s.hbm.groups.getLsbD g || !s.hbm.trained then 256 * s.pulp.tier - 768 * groupLost s.hbm.pcOut g else 0)) 0

/-- The sum of the tenants' HBM quotas in MiB. -/
def State.hbmQuotas (s : State) : Nat := s.fns.foldl (fun n e => n + e.2.ten.pulpHbm) 0

/-- Reduce every HBM quota by the same fraction where the tier no longer holds them (R201). -/
def State.cutQuotas (s : State) : State :=
  let q := s.hbmQuotas
  let room := s.tierMib
  if q ≤ room then s
  else s.fnList.foldl (fun a f =>
    (a.setTen f { (a.fn f).ten with pulpHbm := (a.fn f).ten.pulpHbm * room / q }).pulpFit f) s

/-- At least the bytes of the trained values of all pseudo-channels. -/
def trimBytes : Nat := 65536

/-- The vault draws the key-store key from the central DRBG, with which an empty key store begins (R296). -/
def State.drawKsKey (s : State) (ready : Bool) : State :=
  ((s.setVlt { s.vlt with ksKey := ready, ksAt := s.free }).draw 32).newTree

/-- Training: its values go to the MRAM trim area, and the failed pseudo-channels are mapped out and recorded (R201). -/
def State.trainHbm (s : State) (pcFail : QWord) : State :=
  let s0 := { s with nv := { s.nv with trim := some s.free } }.draw trimBytes
  let s1 := { s0 with hbm := { s0.hbm with
    trained := true, fillDone := false, pcOut := pcFail, groups := groupsUp pcFail, sealCount := 0, sealed := [] } }.drawHbmKeys
  let s2 := (s1.setVlt { s1.vlt with blobs := [] }).drawKsKey s1.rng.ready
  if pcFail = 0 then s2
  else
    let before := s2.hbmQuotas
    let s3 := s2.cutQuotas
    let s4 := s3.logWord 0x071 ((((List.range 64).filter (fun p => pcFail.getLsbD p)).length)
      + (if before = 0 then 0 else 65536 * s3.hbmQuotas / before % 65536) * 2 ^ 32) 1
    ((List.range 64).filter (fun p => pcFail.getLsbD p)).foldl (fun a p => a.raiseLow 15 p 0 false) s4

/-! ## Firmware (R342, R344 to R347, R478) -/

def State.bankPasses (s : State) (b : Bank) (ok : Bool) : Bool :=
  b.valid && ok && decide (s.nv.svnMin ≤ b.svn) && b.stateMask.testBit (s.lcState - 1)

/-- A bank fallback or revert record with both banks' releases (R413). -/
def State.bankRecord (s : State) : State :=
  let rel := fun (b : Bank) => b.major * 65536 + b.minor * 256 + b.patch
  s.logWord 0x060 (rel s.mp.bankA + rel s.mp.bankB * 2 ^ 32) 1

def State.runLoader (s : State) : State := { s with mp := { s.mp with loader := true, running := false, service := true } }

/-- At least the bytes of the alias certificates and keys, and the alias key pairs and certificates that the ROM derives before
firmware starts (R306). -/
def certMax : Nat := 131072
def Vlt.newIdentity (v : Vlt) (at_ : Nat) : Vlt := { v with aliasKeys := true, aliasAt := at_ }

/-- Firmware comes up from the active bank: EPOCH, its dispatch table and SERVICE (R346, R347). Orchard refuses a table in FIELDED
alone (R14). Its refusal counts as a failed trial (R345): the ROM reverts to the other bank, which it boots where that bank passes
its checks (`other`, R3, R344), and to the refused one again where it does not. -/
def State.fwUp (s : State) (cause : Nat) (tableOk other : Bool) : State :=
  let s1 := { s with mp := { s.mp with epoch := (s.mp.epoch + 1) % 65536, restarts := s.mp.restarts + 1
                                       lastCause := cause } }
  let s2 := s1.logWord 0x801 (cause + s1.mp.epoch * 256) 2
  if tableOk || s2.lcState != 3 then
    { s2 with mp := { s2.mp with running := true, service := true, loader := false }
              orc := { s2.orc with tableSet := true }
              vlt := s2.vlt.newIdentity s2.free }.draw certMax
  else if s2.mp.trial && !other then
    let s3 := (s2.bankRecord.raiseLow 27 0xFF 0 false).raiseLow 38 0xFF 0 false
    { s3 with mp := { s3.mp with trial := false, reverted := true, running := false, service := false } }
  else if s2.mp.trial then
    let s3 := { s2 with mp := { s2.mp with activeB := !s2.mp.activeB, trial := false, reverted := true
                                           running := true, service := true, lastCause := 6
                                           epoch := (s2.mp.epoch + 1) % 65536, restarts := s2.mp.restarts + 1 }
                        orc := { s2.orc with tableSet := true }
                        vlt := s2.vlt.newIdentity s2.free }.draw certMax
    (s3.bankRecord.raiseLow 27 0xFF 0 false).logWord 0x801 (6 + s3.mp.epoch * 256) 2
  else { s2 with mp := { s2.mp with running := false, service := false } }

/-- Bank choice and firmware start (R344). -/
def State.startFw (s : State) (cause : Nat) (aOk bOk tableOk bootSel : Bool) : State :=
  let act := s.bankPasses (if s.mp.activeB then s.mp.bankB else s.mp.bankA) (if s.mp.activeB then bOk else aOk)
  let oth := s.bankPasses (if s.mp.activeB then s.mp.bankA else s.mp.bankB) (if s.mp.activeB then aOk else bOk)
  if bootSel then s.runLoader
  else if act then s.fwUp cause tableOk oth
  else
    let s1 := s.raiseLow 38 0xFF 0 false
    if oth then
      let s2 := { s1 with mp := { s1.mp with activeB := !s1.mp.activeB, trial := false
                                             reverted := s1.mp.reverted || s1.mp.trial } }
      s2.bankRecord.fwUp cause tableOk false
    else s1.runLoader

/-- The highest family of a mask (R478). -/
def highestFam (m : BitVec 16) : Nat := (List.range 16).foldl (fun a k => if m.getLsbD k then k else a) 0

/-- The active bank. -/
def State.activeBank (s : State) : Bank := if s.mp.activeB then s.mp.bankB else s.mp.bankA

/-- Load a region's images of its family choice from the active bundle (R478), its control stores in bank A. -/
def State.loadRegion (s : State) (r : Nat) : State :=
  let x := s.region r
  let m := s.activeBank.families
  let top := highestFam m
  let fam := match x.choice with
    | some f => if m.getLsbD f then f else top
    | none => top
  let choice := match x.choice with
    | some f => if m.getLsbD f then some f else some top
    | none => none
  let ver := s.activeBank.bundle
  let s1 := s.setRegion r { x with family := fam, version := ver, choice := choice }
  ([4 * r, 4 * r + 1, 4 * r + 2, 4 * r + 3, 16 + r]).foldl (fun a k =>
    a.setCluster k { a.cluster k with activeB := false, altValid := false, loading := false, selfTest := false
                                      family := fam, version := ver }) s1

/-! ## Known-answer tests and regions (R116, R150, R378) -/

/-- A STUCK source still holds a unit out (R116, R399). -/
def State.stuckOut (s : State) (c : UnitClass) (n : Nat) : Bool :=
  s.flt.srcs.any (fun e => e.2.state == 2 && e.2.out.contains (c, n))

/-- A STUCK source holds a region out. -/
def State.stuckRegion (s : State) (r : Nat) : Bool :=
  s.flt.srcs.any (fun e => e.2.state == 2 && e.2.regionOut && srcRegion e.1 == r)

/-- Groups of a region's scope (R371). -/
def regionGroups (r : Nat) : List Nat := [2 * r, 2 * r + 1, 8 + r, 12 + r, 19 + r]

/-- A region held out by a Rind QUARANTINE whose alarm bit is still set (R116, R378). -/
def State.rindHolds (s : State) (r : Nat) : Bool :=
  (regionGroups r).any (fun g => s.rnd.alarm.getLsbD g && s.grpAction g == 2)

/-- A unit runs its tests: it returns to service, or stays out as OUT_ADMIN. -/
def State.testUnit (s : State) (fails : List (UnitClass × Nat)) (c : UnitClass) (n : Nat) : State :=
  let k := s.cell c n
  if s.stuckOut c n then s.setCell c n { k with inService := false, outFault := true }
  else if fails.contains (c, n) then s.setCell c n { k with inService := false, outAdmin := true }
  else s.setCell c n { k with inService := true, outFault := false, outAdmin := false, waiting := none }

/-- The tests of every unit of a region. -/
def State.testRegion (s : State) (fails : List (UnitClass × Nat)) (r : Nat) : State :=
  classAll.foldl (fun a c => (List.range (classPerRegion c)).foldl (fun b k =>
    b.testUnit fails c (classPerRegion c * r + k)) a) s

/-- A region starts at boot: loaded, tested, and in service unless it is held out or has no unit. -/
def State.startRegion (s : State) (fails : List (UnitClass × Nat)) (r : Nat) : State :=
  let s1 := (s.loadRegion r).testRegion fails r
  let x := s1.region r
  let held := s1.rindHolds r
  s1.setRegion r { x with
    quarantine := held, draining := false, reloading := false, failed := false
    inService := s1.hbm.groups.getLsbD r && !held && !s1.stuckRegion r && !s1.regionDead r }

/-- Firmware is up: microcode, tests, regions and their faults (R344, R435 steps 12 and 13). -/
def State.startRegions (s : State) (fails : List (UnitClass × Nat)) : State :=
  if s.mp.running then
    let s1 := (List.range 4).foldl (fun a r => a.startRegion fails r) s
    let s2 := { s1 with mp := { s1.mp with katDone := true } }
    fails.foldl (fun a x => a.raiseLow 39 x.2 (classCode x.1) false) s2
  else s

/-! ## The boots -/

/-- The vault serves at this boot: not ALARMED, not debug-open, and firmware rather than the loader (R344, R363,
R385). -/
def State.mayUnseal (s : State) (b : BootIn) : Bool :=
  !s.rnd.alarmed && !s.lc.debugOpen && !s.pwr.bootSel
    && (s.bankPasses s.mp.bankA b.bankAOk || s.bankPasses s.mp.bankB b.bankBOk)

/-- A boot after cold (0), life-cycle (2) or warm (1) reset, from the ROM on (R360, R435). BOOT_SEL stands as the last release of
PERST_N sampled it (R344, R467, R475). -/
def State.boot (s : State) (b : BootIn) (cause : Nat) : State :=
  let cold := cause != 1
  let a := s.lifeCycle cold b.lcCut
  let s1 := a.1
  if b.lcCut.isSome && !a.2.isEmpty then s1
  else if s1.scrapped then
    (({ s1 with hif := if cold then { s1.hif with
        linkUp := trains b.rate b.width, rate := if trains b.rate b.width then b.rate else 0
        width := if trains b.rate b.width then b.width else 0, flit := trains b.rate b.width && (b.flit || b.rate == 4)
        cfgReady := trains b.rate b.width } else s1.hif
                pwr := { s1.pwr with rootLock := true, sscEn := s1.nv.spread } }).refresh)
  else
    let s2 := { s1 with
      rnd := { s1.rnd with configValid := true, stored := true }
      flt := { s1.flt with cfgLoaded := true }
      pwr := { s1.pwr with rootLock := true, sscEn := s1.nv.spread
                           hbm0Lock := cold || s1.pwr.hbm0Lock, hbm1Lock := cold || s1.pwr.hbm1Lock } }
    let s3 := { s2 with rnd := { s2.rnd with alarmed := s2.highAlarm } }
    let s4 := s3.bootRecords cause a.2
    let s5 := a.2.foldl (fun t x => if x.2.2.2 = 1 then t.raiseLow 31 0xFF 0 false else t) s4
    let s6 := if cold && s5.pwr.shutFlag then s5.raiseLow 33 0xFF 0 false else s5
    let s7 := s6.startEntropy b.rngRuns b.rngKatOk
    let s8 := if s7.rng.ready then
        { s7 with lc := { s7.lc with nonce := b.nonce, retained := b.nonce } } else s7
    let s9 := { s8 with vlt := { s8.vlt with latched := s8.rnd.hold } }
    let s10 := if s9.mayUnseal b then s9.unseal (!a.2.isEmpty) b.headerOk b.torn else s9
    let s11 := if cold then { s10 with hif := { s10.hif with
      linkUp := trains b.rate b.width, rate := if trains b.rate b.width then b.rate else 0
      width := if trains b.rate b.width then b.width else 0, flit := trains b.rate b.width && (b.flit || b.rate == 4)
      cfgReady := trains b.rate b.width } } else s10
    let s12 := if cold then s11.trainHbm b.pcFail else
      let x := if s11.hbm.keySeal.isNone then s11.drawHbmKeys else s11
      if x.vlt.ksKey then x else (x.setVlt { x.vlt with blobs := [] }).drawKsKey x.rng.ready
    let s13 := s12.startFw (if cold then 0 else 5) b.bankAOk b.bankBOk b.tableOk s12.pwr.bootSel
    let s14 := s13.startRegions b.katFail
    { s14 with pwr := { s14.pwr with idleSince := s14.now, enteredAt := s14.now } }.refresh

/-- A warm reset (R116, R380, R385). -/
def State.warm (s : State) (b : BootIn) : State := (s.clearMain false).boot b 1

/-- A life-cycle reset acts as a cold reset with the link going down (R359). -/
def State.lifeReset (s : State) (b : BootIn) : State := (s.coldClear).boot b 2

/-! ## Raising a fault -/

/-- Raise an event of a source and carry out its level; a block that it quarantined may have been the last of its region (R394), and
ZEROISE ends in a warm reset with the boot `b` (R380, R395). -/
def State.raiseB (s : State) (b : BootIn) (n unit detail : Nat) (present : Bool) : State :=
  let s0 := s.raiseLow n unit detail present
  let s1 := if (srcBlock n).isSome then s0.checkDead (srcRegion n) else s0
  if s.rnd.level < 4 ∧ 4 ≤ s1.rnd.level ∧ s1.up then s1.warm b else s1

end Sys2Proof.Machine
end

