-- ==== Sys2Proof/Machine/Ladder.lean ====
section
/-! DEFINITION. Raising a fault source from any command that carries no boot of its own (R395; assumption 13). -/

namespace Sys2Proof.Machine

/-- Raise an event of a source; a reset that its level asks for boots as `BootIn` gives by default. -/
def State.raise (s : State) (n unit detail : Nat) : State := s.raiseB {} n unit detail false

end Sys2Proof.Machine
end

