-- ==== Sys2Proof/Machine/Post.lean ====
section
/-! DEFINITION. Charges (R104, R105), the ends of steps and items (R18, R19, R60, R62), and posting: key commits,
outputs, the completion entry and its interrupt (R46, R63 to R69, R87, R114, R304). -/

namespace Sys2Proof.Machine

/-! ## Charges (R104, R105) -/

/-- One list of one region, class and PRIO level (R107). -/
def listKey (c : UnitClass) (region prio : Nat) : Nat := (classCode c * 4 + region) * 8 + prio

def deficitKey (l tenant : Nat) : Nat := 1024 * l + tenant

/-- The cap of an account in units of 10^-6 charged µs (R105). -/
def accCap (rate burst : Nat) : Int := Int.ofNat (rate * burst * 1000)

/-- Add charged µs to a tenant's accounts, up to their caps; a charge is a negative amount. -/
def Share.credit (h : Share) (us : Int) : Share :=
  let c := h.commitAcc + us * 1000000
  let d := h.ceilAcc + us * 1000000
  { h with commitAcc := if us < 0 then c else min c (accCap h.cfg.commit h.cfg.burst)
           ceilAcc := if h.cfg.ceiling = 4294967295 then h.ceilAcc
             else if us < 0 then d else min d (accCap h.cfg.ceiling h.cfg.burst) }

/-- Charge or refund a dispatch of a step against its tenant's accounts and its list's deficit (R104). -/
def State.chargeStep (s : State) (it : Item) (st : Step) (us : Int) : State :=
  let s1 := s.setShare it.fn ((s.fn it.fn).share.credit us)
  if st.wdrr then
    let k := deficitKey (listKey st.entry.cls st.region.val it.prio) it.fn
    { s1 with orc := { s1.orc with deficit := Tab.put 0 s1.orc.deficit k (Tab.get 0 s1.orc.deficit k + us) } }
  else s1

/-! ## Outputs -/

/-- The length of an output with its variable lengths resolved, and its attribute word (R232, R274, R295). -/
def Step.actual (st : Step) (k : Nat) (o : OutSpec) : Nat × QWord :=
  let r := st.res.getD {}
  if st.d.opcode = 0x0431 then
    (if k = 0 then (if r.outLen = 3 then 3 else 5, 0) else (r.keyLen, r.keyAttr))
  else if st.d.opcode = 0x0201 ∧ o.secret then (min r.outLen o.len, o.key.getD 0)
  else (o.len, o.key.getD 0)

/-- Where the bytes of a public key that an output carries stand: in the blob that 0x0156 reads (R187), or beside the key that
the step has placed (R161). -/
def State.keyBytes (s : State) (it : Item) (st : Step) : Option Nat :=
  if st.d.opcode = 0x0156 then some (s.blob (hTenant st.d.key) (hIndex st.d.key)).keyAt
  else if isKeygen st.d.opcode && st.pkDest.isNone then
    match st.dest with
    | some (h, 0) => some (s.slot it.fn (hIndex h)).keyAt
    | some (h, _) => some (s.blob it.fn (hIndex h)).keyAt
    | none => none
  else none

/-- Write a public output (R14): open bytes, with the bits at 0 that R185 gives. -/
def State.writePublic (s : State) (it : Item) (st : Step) (k len : Nat) (segs : List (QWord × Nat)) : State :=
  let at_ := if k = 0 then (s.keyBytes it st).getD s.free else s.free
  let s1 := s.draw len
  match if k = 0 then hqcEdge st.d.opcode st.d.param else none with
  | none => s1.writeOpen it.fn at_ segs
  | some (off, m) =>
    let a := segTake segs off
    let b := segTake a.2 1
    ((s1.writeOpen it.fn at_ a.1).writeBytes it.fn b.1 [Config.freeByte (at_ + off) &&& m]).writeOpen it.fn (at_ + off + 1) b.2

/-- Write the selected outputs of a step in index order over its segments (R59, R69, R160). -/
def State.writeOuts (s : State) (it : Item) (st : Step) : List (Nat × OutSpec) → List (QWord × Nat) → State
  | [], _ => s
  | (k, o) :: t, segs =>
    let a := st.actual k o
    if o.secret then
      let r := segTake segs (a.1 + 48)
      let at_ := if isKeygen st.d.opcode then st.genAt else s.free
      ((s.writeBytes it.fn r.1 (s.wrapped it.fn (hIndex st.d.key2) a.1 a.2 at_)).draw a.1).writeOuts it st t r.2
    else
      let r := segTake segs a.1
      (s.writePublic it st k a.1 r.1).writeOuts it st t r.2

/-- The lane group of a lane step (R262), and bytes that a group's port has issued in this tick (R255). -/
def Step.group (st : Step) : Nat := st.region.val + (if st.entry.cls = .dig then 4 else 0)
def State.portWrote (s : State) (g n : Nat) : State :=
  { s with orc := { s.orc with portUsed := Tab.put 0 s.orc.portUsed g (Tab.get 0 s.orc.portUsed g + n) } }

/-- Write what a step has still to write when its item posts. -/
def State.writeStep (s : State) (it : Item) (st : Step) : State :=
  if st.yields && decide (st.written = 0) then
    let s1 := s.writeOuts it st st.selected st.segs
    if st.entry.cls.isLane && !it.punnet then s1.portWrote st.group st.outBytes else s1
  else s

/-! ## The completion entry -/

/-- Count an unsignalled entry and test the count trigger (R114). -/
def State.countEntry (s : State) (fn q : Nat) : State :=
  let p := s.qp fn q
  let oldest := if p.unsig = 0 then s.now else p.oldest
  if p.coalCount ≤ p.unsig + 1 then
    let s1 := s.setQp fn q { p with unsig := 0, oldest := oldest }
    if s1.orc.msgs.contains (fn, p.vector) then s1
    else { s1 with orc := { s1.orc with msgs := s1.orc.msgs ++ [(fn, p.vector)] } }
  else s.setQp fn q { p with unsig := p.unsig + 1, oldest := oldest }

/-- Write the completion entry in ring order (R46, R63); without Bus Master Enable it is discarded (R37). -/
def State.writeCompletion (s : State) (it : Item) (v : Verdict) : State :=
  let p := s.qp it.fn it.q
  let p1 := { p with outstanding := p.outstanding - 1 }
  if (s.fn it.fn).port.bme then
    let wrap := p.cqTail + 1 = p.cqDepth
    let p2 := { p1 with cqTail := if wrap then 0 else p.cqTail + 1, phase := if wrap then !p.phase else p.phase }
    ((s.setQp it.fn it.q p2).emit
      (.completion it.fn it.q (p.cqBase + BitVec.ofNat 64 (16 * p.cqTail)) (cplBytes it.tag (cplDw1 p.sqHead it.q)
        (cplDw2 (it.waitUs v s.now) v.why) (cplDw3 v.st it.flags v.step p.phase)))).countEntry it.fn it.q
  else
    let s1 := s.setQp it.fn it.q p1
    let s2 := { s1 with qm := { s1.qm with cplLost := satSucc s1.qm.cplLost } }
    ((s2.qpError it.fn it.q 4).fnEvent it.fn evCplLost).raise 6 (it.fn % 256) 0

/-! ## Posting -/

/-- Count a posted status in the tenant's counters (R111). -/
def State.countStatus (s : State) (it : Item) (v : Verdict) : State :=
  let h := (s.fn it.fn).share
  let h1 := if it.shaped then { h with shaped := satSucc h.shaped } else h
  let h2 := if v.st = .refusedQuota then { h1 with quota := satSucc h1.quota } else h1
  let h3 := if v.st = .refusedOverload ∨ v.st = .expired then { h2 with overload := satSucc h2.overload } else h2
  s.setShare it.fn (if it.counted then { h3 with backlog := h3.backlog - 1 } else h3)

/-- Pass the flow of an item that leaves Orchard to the next item at the following boundary (R87). -/
def State.passFlow (s : State) (it : Item) : State :=
  if it.flow ≠ 0 ∧ it.counted ∧ it.flowHead then
    { s with orc := { s.orc with flowsPassed := s.orc.flowsPassed ++ [(it.fn, it.flow, s.now)] } }
  else s

/-- The keys a success commits have room in the heap (R302). -/
def State.keysFit (s : State) (it : Item) : Bool :=
  it.steps.all (fun st => match st.dest with
    | some (_, 0) => !st.passes || s.heapFits st.newKey.2
    | _ => true)

/-- An item of the same queue pair that was accepted earlier can still post in this tick: its verdict is of an earlier
tick, a secret step of it falls due, or a public step of it may end. Completions of one tick are written in order of
acceptance (R69); what waits here is written at the latest as the tick ends (`State.flushPosts`). -/
def State.mustWait (s : State) (it : Item) : Bool :=
  s.orc.items.any (fun y => decide (y.seq < it.seq) && y.fn == it.fn && y.q == it.q &&
    ((match y.decided with
      | some v => decide (v.at_ < s.now)
      | none => false)
    || y.steps.any (fun x => if x.secret then
        (x.phase == .running || x.phase == .staged) && x.due == some s.now || x.phase == .port
      else x.outstanding)))

/-- An item leaves with a verdict: key commits, outputs, the completion entry, and the release of what it held. A punnet that
ended under R19 writes no output and commits no key, whatever its status. -/
def State.putOut (s : State) (it : Item) (v0 : Verdict) : State :=
  let good := decide (v0.st.code < 0x10) && it.fail.isNone
  let v := if good && !s.keysFit it then { v0 with st := .deviceFault, why := .none } else v0
  let good := decide (v.st.code < 0x10) && it.fail.isNone
  let s1 := s.reserveSteps it.fn false (if it.counted then it.steps else [])
  let s2 := if good then (it.steps.filter (·.passes)).foldl (fun a st => a.placeKeys it.fn st) s1 else s1
  let s3 := if good then it.steps.foldl (fun a st => a.writeStep it st) s2 else s2
  let s4 := (s3.trace it it.traceStep 0x09 (it.waitUs v s3.now) v it.traceUnit).writeCompletion it v
  ((s4.countStatus it v).passFlow it).dropItem it.seq

/-- Post an item with a verdict, behind what of its queue pair must go first in this tick (R69). -/
def State.post (s : State) (it : Item) (v : Verdict) : State :=
  if s.mustWait it then s.setItem { it with decided := some { v with at_ := s.now - 1 } } else s.putOut it v

/-- Post every item whose verdict was fixed in an earlier tick, in order of acceptance (R19, R67, R69). -/
def State.postDecided (s : State) : State :=
  s.orc.items.foldl (fun a it =>
    match a.item? it.seq with
    | none => a
    | some x =>
      match x.decided with
      | some v => if v.at_ < a.now then a.post x v else a
      | none => a) s

/-- A failed punnet posts when nothing dispatched is outstanding: at once if its failure is of an earlier tick,
else at the next tick (R19). -/
def State.settle (s : State) (it : Item) (v : Verdict) : State :=
  if it.busy then s.setItem it
  else if v.at_ < s.now then s.post it v
  else s.setItem { it with decided := some v }

/-- End an item before its steps have run, with a verdict decided in tick `at_`: a single item posts in the first
tick after it (R67), a punnet ends under R19. -/
def State.failItem (s : State) (it : Item) (v : Verdict) : State :=
  if it.punnet then
    let it1 := it.stopLost v.step s.now
    match it.fail with
    | some f => s.settle it1 f
    | none => s.settle { it1 with fail := some v } v
  else if v.at_ < s.now then s.post it v
  else s.setItem { it with decided := some v }

/-- A waiting step that a finished step stops: by its guard, or by naming an output it did not yield (R19, R60). -/
def Item.guardFails (it : Item) (p : Step) : Bool :=
  it.steps.any (fun x => x.waiting &&
    ((!p.passes && (guardsOf x.lk).contains p.num)
      || (!p.yields && (namedValues x.lk).any (fun y => y.1 == p.num))))

/-- A dispatched step ends now with its result; the item posts, goes on, or ends under R19. The result of a secret step
was decided before the boundary of its due tick, that of a public step in the present tick. -/
def State.endStep (s : State) (it : Item) (st : Step) : State :=
  let p := { st with phase := .done, endAt := some s.now }
  let it1 := it.setStep p
  let r := p.res.getD {}
  let v : Verdict := { st := p.status, why := r.reason, step := p.num, at_ := if st.secret then s.now - 1 else s.now }
  if !it.punnet then s.post it1 v
  else
    let it2 := match it1.fail with
      | some _ => it1
      | none => if 0x10 ≤ v.st.code ∨ it1.guardFails p then { it1 with fail := some v } else it1
    match it2.fail with
    | some f => s.settle it2 f
    | none =>
      if it2.steps.all (fun x => x.phase == .done) then s.post it2 (it2.success s.now)
      else s.setItem it2

end Sys2Proof.Machine
end

