-- ==== Sys2Proof/Machine/Doorbell.lean ====
section
/-! DEFINITION. Doorbell writes (R26, R28, R36, R45 to R50) and cancel (R70, R71, R91). -/

namespace Sys2Proof.Machine

/-! ## Access to a function -/

/-- Host accesses reach the function: the link is up, configuration space is ready, the device is not in P4 and
the function exists (R36, R428). What comes on a failed IDE stream is dropped (R38). -/
def State.reaches (s : State) (fn : Nat) : Bool :=
  s.up && s.hif.linkUp && s.hif.cfgReady && s.pwr.state != 4 && s.fnExists fn && !s.hif.linkBroken
    && !(s.fn fn).port.ideBroken

/-- Configuration requests to the function are answered; a VF answers 1 ms after VF Enable is set (R36). -/
def State.cfgReaches (s : State) (fn : Nat) : Bool :=
  s.reaches fn && (fn == 0 || (match s.hif.vfSetAt with
    | some t => decide (t + 1000 ≤ s.now)
    | none => true))

/-- Record an access that broke R26. -/
def State.badAccess (s : State) (fn : Nat) : State := s.fnEvent fn evBadAccess

/-- A size of 4 or 8 bytes, naturally aligned (R26). -/
def accessOk (off size : Nat) : Bool := (size == 4 || size == 8) && off % size == 0

/-- Guard a memory access to a function: with Memory Space Enable 0 it completes with Unsupported Request (R26, R36). -/
def State.atBar (s : State) (fn : Nat) (k : State → State) : State :=
  if !s.reaches fn then s
  else if !(s.fn fn).port.mse then s.emit .unsupported
  else k s

/-- Guard a write to a BAR: a malformed one only sets BAD_ACCESS. A SCRAPPED device ignores every write (R367). -/
def State.access (s : State) (fn off size : Nat) (k : State → State) : State :=
  s.atBar fn fun s => if s.scrapped then s else if accessOk off size then k s else s.badAccess fn

/-- A write to BAR4 takes effect: Memory Space Enable, and not ALARMED or SCRAPPED (R33, R367). -/
def State.bar4Writes (s : State) : Bool :=
  s.reaches 0 && (s.fn 0).port.mse && !s.rnd.alarmed && !s.scrapped

/-- Guard a write to BAR4 (R26, R33, R367). -/
def State.onBar4 (s : State) (k : State → State) : State :=
  s.atBar 0 fun s => if s.rnd.alarmed || s.scrapped then s else k s

/-! ## Ring arithmetic -/

/-- Entries from `a` up to `b` on a ring. -/
def ringDist (a b depth : Nat) : Nat := (b + depth - a) % depth

/-- Fetching is held (R49). -/
def State.fetchHeld (s : State) (fn : Nat) : Bool :=
  let p := (s.fn fn).port
  p.fetchStop || !p.ready || !p.bme

/-! ## SQ_DB and CQ_DB -/

/-- A doorbell that READY and the queue pair let through (R28, R36, R50); anything else is dropped and counted. -/
def State.doorbell (s : State) (fn q : Nat) (k : State → State) : State :=
  let p := s.qp fn q
  if p.valid && (s.fn fn).port.ready && p.errCause == 0 then k s else s.dropDb fn

/-- The tail named by SQ_DB (R45, R49). -/
def State.sqTailWrite (s : State) (fn q : Nat) (v : Word) : State :=
  s.doorbell fn q fun s =>
    let p := s.qp fn q
    let t := v.toNat % 65536
    if t < p.sqDepth then s.setQp fn q { p with sqTail := t } else s.qpError fn q 1

/-- The head named by CQ_DB (R46, R49). -/
def State.cqHeadWrite (s : State) (fn q : Nat) (v : Word) : State :=
  s.doorbell fn q fun s =>
    let p := s.qp fn q
    let h := v.toNat % 65536
    if h < p.cqDepth ∧ ringDist p.cqHead h p.cqDepth ≤ ringDist p.cqHead p.cqTail p.cqDepth then
      s.setQp fn q { p with cqHead := h }
    else s.qpError fn q 2

/-- SQ_DB (R26, R48): an 8-byte write holds CQ_DB in its high half. -/
def execSqDb (fn : Fin 1024) (q size : Nat) (v : QWord) (s : State) : Host.Outcome State Fault Refusal :=
  .next (s.access fn.val (16 * q) size fun s =>
    let s1 := s.sqTailWrite fn.val q (v.setWidth 32)
    if size = 8 then s1.cqHeadWrite fn.val q (v.extractLsb' 32 32) else s1)

/-- CQ_DB (R48). -/
def execCqDb (fn : Fin 1024) (q size : Nat) (v : Word) (s : State) : Host.Outcome State Fault Refusal :=
  .next (s.access fn.val (16 * q + 4) size fun s => s.cqHeadWrite fn.val q v)

/-! ## Cancel -/

/-- Fix the outcome of a dispatched step before its end: a secret one keeps its due tick, also where it waits for a re-run, a
public one ends when its scrub does, and at once where it waits for a re-run (R71, R120). -/
def Step.stopWith (st : Step) (why : StopWhy) (res : JobResult) (now : Nat) : Step :=
  match st.phase with
  | .running =>
    { st with phase := if st.secret then .staged else .scrub, res := some res, stop := some why }
  | .staged => { st with res := some res, stop := some why }
  | _ =>
    if !st.awaitsRerun then st
    else if st.secret && decide (now < st.due.getD 0) then { st with phase := .staged, res := some res, stop := some why }
    else { st with phase := .done, res := some res, endAt := some now }

/-- A dispatched step whose due tick has not begun may still be stopped (R71, R91). -/
def Step.stoppable (st : Step) (now : Nat) : Bool :=
  st.awaitsRerun || (match st.due with
    | some d => decide (now < d) && (st.phase == .running || st.phase == .staged)
    | none => st.phase == .running)

/-- What a step whose due tick has begun shows at it: its staged result, or a fault where nothing was staged (R85). -/
def Step.atDue (st : Step) : Step :=
  if st.phase == .staged then st else { st with res := some (faultRes .engineFault) }

/-- The posting of a punnet has begun: every step it has still to reach falls due in the present tick, without an extension, and
no step is left that it could yet dispatch (R71, R91). -/
def Item.postBegun (it : Item) (now : Nat) : Bool :=
  let out := it.steps.filter (fun x => x.outstanding || x.awaitsRerun)
  let ends := fun (x : Step) => x.secret && (x.phase == .running || x.phase == .staged) && (match x.due with
      | some d => decide (d ≤ now)
      | none => false)
    && (x.phase == .staged || !x.entry.ext || x.extended)
  !out.isEmpty && out.all ends
    && (it.fail.isSome || it.steps.all (fun x => !x.waiting)
      || out.any (fun x => decide (0x10 ≤ x.atDue.status.code) || it.guardFails x.atDue))

def abortRes (why : Reason) : JobResult := { status := .aborted, reason := why }

/-- The accepted and unposted items of a queue pair with a tag (R70). -/
def Item.matches_ (it : Item) (fn q : Nat) (tag : Word) : Bool :=
  it.fn == fn && it.q == q && it.tag == tag && it.counted

/-- Cancel one matched item (R71). An item whose end is already fixed keeps it: a verdict decided and not yet posted, a punnet
that has failed under R19, or one cancelled before (DESIGN CHOICE, assumption 57). -/
def State.cancelItem (s : State) (it : Item) (why : Reason) : State :=
  let now := s.now
  let begun := it.steps.any (fun x => x.first.isSome)
  let t := s.trace it it.traceStep 0x0B (flag begun) Verdict.blank it.traceUnit
  if !it.live || it.cancelled || (it.punnet && it.postBegun now) then s
  else if !begun then
    t.setItem { it with cancelled := true, decided := some { st := .cancelled, why := why, at_ := now } }
  else if it.punnet then
    let it1 := { it with
      cancelled := true
      steps := it.steps.map (fun x => if x.stoppable now then x.stopWith .cancel (abortRes why) now else x)
      fail := some { st := .aborted, why := why, at_ := now } }
    t.settle it1 { st := .aborted, why := why, at_ := now }
  else match it.steps.head? with
    | none => s
    | some x =>
      if x.stoppable now && !(x.awaitsRerun && !(x.secret && decide (now < x.due.getD 0))) then
        t.setItem { it with cancelled := true, steps := [x.stopWith .cancel (abortRes why) now] }
      else if x.waiting then
        if isAeadDec x.d.opcode && decide (4194304 < x.outBytes) && decide (0 < x.written) then
          t.setItem { it with cancelled := true
                              steps := [{ x with phase := .port, zeroing := true, portLeft := x.written
                                                 portAt := some (now + 1), res := some (abortRes why) }] }
        else
          t.setItem { it with cancelled := true, decided := some { st := .aborted, why := why, at_ := now } }
      else s

/-- The tag named by CANCEL (R70). -/
def State.cancelWrite (s : State) (fn q : Nat) (v : Word) : State :=
  if (s.qp fn q).valid && (s.fn fn).port.ready then
    (s.orc.items.filter (fun it => it.matches_ fn q v)).foldl (fun a it => a.cancelItem it .hostCancel) s
  else s.dropDb fn

/-- A write to the read-only QP_STATUS: it counts where the function does not hold the queue pair (R28). -/
def State.statusWrite (s : State) (fn q : Nat) : State := if (s.qp fn q).valid then s else s.dropDb fn

/-- CANCEL (R48, R70, R71): an 8-byte write holds QP_STATUS, which is read-only, in its high half. -/
def execCancel (fn : Fin 1024) (q size : Nat) (v : Word) (s : State) : Host.Outcome State Fault Refusal :=
  .next (s.access fn.val (16 * q + 8) size fun s =>
    let s1 := s.cancelWrite fn.val q v
    if size = 8 then s1.statusWrite fn.val q else s1)

/-- One 4-byte write to the doorbell block of a queue pair (R28, R48). -/
def State.write2 (s : State) (fn off : Nat) (v : Word) : State :=
  let q := off / 16
  if off % 16 = 0 then s.sqTailWrite fn q v
  else if off % 16 = 4 then s.cqHeadWrite fn q v
  else if off % 16 = 8 then s.cancelWrite fn q v
  else s.statusWrite fn q

end Sys2Proof.Machine
end

