-- ==== Sys2Proof/Machine/Fetch.lean ====
section
/-! DEFINITION. Fetching entries (R45, R47, R49, R57, R58), fragment-list reads (R53 to R55) and acceptance
(R52, R75). -/

namespace Sys2Proof.Machine

/-- Entries between the head and the tail of the submission ring (R45). -/
def Qp.waitingEntries (p : Qp) : Nat := ringDist p.sqHead p.sqTail p.sqDepth

/-- A completion slot can be reserved (R47). -/
def Qp.slotFree (p : Qp) : Bool :=
  decide (p.outstanding + ringDist p.cqHead p.cqTail p.cqDepth + 1 ≤ p.cqDepth - 1)

/-- Consume entries as one item; each is read by DMA under the function's routing ID (R24). -/
def State.consume (s : State) (fn q : Nat) (entries : List (List QWord)) : State :=
  let p := s.qp fn q
  ((List.range entries.length).foldl (fun a k =>
    a.emit (.readReq fn (p.sqBase + BitVec.ofNat 64 (64 * ((p.sqHead + k) % p.sqDepth))) 64)) s).setQp fn q
      { p with sqHead := (p.sqHead + entries.length) % p.sqDepth, outstanding := p.outstanding + 1
               fetched := p.fetched ++ [{ entries := entries }] }

/-- FETCH_ISSUE (R45, R47, R49, R51, R57, R58): the next item's entries, as the bytes that host memory holds. -/
def execFetchIssue (fn : Fin 1024) (q : Nat) (bytes : List Byte) (s : State) :
    Host.Outcome State Fault Refusal :=
  let p := s.qp fn.val q
  .next (
    if !p.valid || p.errCause != 0 || s.fetchHeld fn.val || p.waitingEntries == 0 || !p.slotFree || !s.up then s
    else match hostEntries bytes with
      | [] => s
      | e :: t =>
        if kindOf e = 2 then s.qpError fn.val q 5
        else if kindOf e = 1 then
          let n := stepsOf e
          if !(within n 1 16) then s.consume fn.val q [e]
          else if p.sqDepth - 1 < n + 1 then s.qpError fn.val q 6
          else if p.waitingEntries < n + 1 ∨ t.length ≠ n then s
          else s.consume fn.val q (e :: t)
        else s.consume fn.val q [e])

/-- The descriptor of a step of a fetched item; step 0 is a single item's. -/
def Fetched.desc (f : Fetched) (step : Nat) : Option Desc :=
  if step = 0 then f.entries.head?.map descOf else (f.entries[step]?).map stepDescOf

/-- The length that ends a walk (R55): IN_LEN, or what the opcode writes for the declared input. The output lists of a step are
walked once the steps before it are checked, so the lists of a punnet are walked in step order (DESIGN CHOICE, assumption 58). -/
def State.walkLimit (s : State) (fn : Nat) (f : Fetched) (step : Nat) (output : Bool) (d : Desc) : Option Nat :=
  if !output then some d.inLen
  else
    let lk := if step = 0 then {} else linkOf (f.entries.getD step [])
    let before : Chk (List Step) := if step = 0 then .ok [] else (s.checkSteps fn f.walks 1 ((f.entries.drop 1).take (step - 1)) []).1
    match before with
    | .ok prevs =>
      match s.entryOf fn step d lk prevs with
      | some e => some (Step.outBytes { num := step, d := d, lk := lk, entry := e })
      | none => some 0
    | _ => none

/-- FRAGMENT_LIST_READ (R51, R53 to R55): the next list of an item's input or output, as the bytes that host memory holds. -/
def execFragmentListRead (fn : Fin 1024) (q step : Nat) (output : Bool) (bytes : List Byte) (s : State) :
    Host.Outcome State Fault Refusal :=
  let p := s.qp fn.val q
  let entries := fragEntries bytes
  .next (match p.fetched with
    | [] => s
    | f :: rest =>
      match f.desc step with
      | none => s
      | some d =>
        let count := if output then d.outFrags else d.inFrags
        let addr := if output then d.outAddr else d.inAddr
        if count = 0 ∨ listBad count addr then s
        else
          let w := (walkOf f.walks step output).getD
            { step := step, output := output, lists := 0, next := count, at_ := addr, sum := 0, segs := [], finished := false
              bad := none }
          match s.walkLimit fn.val f step output d with
          | none => s
          | some lim =>
            if w.finished ∨ entries.length ≠ w.next then s
            else
              let w1 := walkList lim { w with lists := w.lists + 1 } entries
              (s.emit (.readReq fn.val w.at_ (16 * w.next))).setQp fn.val q
                { p with fetched := { f with walks := setWalk f.walks w1 } :: rest })

/-! ## Acceptance -/

/-- The item that a fetched entry makes, without its steps. -/
def State.newItem (s : State) (fn q : Nat) (e : List QWord) : Item :=
  let d := descOf e
  let punnet := d.kind == 1
  { seq := s.orc.seq, fn := fn, q := q, qpn := (s.qp fn q).num
    opcode := if punnet then 0 else d.opcode, param := if punnet then 0 else d.param
    tag := d.tag, prio := d.prio, bulk := d.bulk && !punnet, flow := d.flow, deadline := d.deadline
    acc := s.now, punnet := punnet }

/-- Put an item that failed a check into Orchard with its verdict, which posts at the next tick (R67). -/
def State.refuse (s : State) (it : Item) (st : Status) (why : Reason) (step : Nat) : State :=
  let v : Verdict := { st := st, why := why, step := step, at_ := s.now }
  let s1 := { s with orc := { s.orc with seq := s.orc.seq + 1, items := s.orc.items ++ [{ it with decided := some v }] } }
  s1.trace it none 0x0A 0 v none

/-- An accepted item of the same tenant and flow stands before it (R87). -/
def State.flowBusy (s : State) (it : Item) : Bool :=
  it.flow != 0 && s.orc.items.any (fun x => x.counted && x.fn == it.fn && x.flow == it.flow)

/-- Accept an item with its steps: reserve, count and record it (R75, R106, R304). -/
def State.enterItem (s : State) (it : Item) (steps : List Step) : State :=
  let it1 := { it with steps := steps, counted := true, flowHead := !s.flowBusy it }
  let h := (s.fn it.fn).share
  let s1 := (s.reserveSteps it.fn true steps).setShare it.fn { h with backlog := h.backlog + 1 }
  let s2 := { s1 with orc := { s1.orc with seq := s1.orc.seq + 1, items := s1.orc.items ++ [it1] } }
  let s3 := s2.trace it1 it1.traceStep 0x01 it1.deadline Verdict.blank none
  if it1.flowHead then s3 else s3.trace it1 it1.traceStep 0x03 0 Verdict.blank none

/-- ITEM_ACCEPT (R52, R56 to R61, R75): the oldest fetched item of a queue pair. -/
def execItemAccept (fn : Fin 1024) (q : Nat) (s : State) : Host.Outcome State Fault Refusal :=
  let p := s.qp fn.val q
  .next (match p.fetched with
    | [] => s
    | f :: rest =>
      match f.entries with
      | [] => s
      | e :: _ =>
        let it := s.newItem fn.val q e
        let s1 := s.setQp fn.val q { p with fetched := rest }
        match s.checkItem fn.val f with
        | (.wait, _) => s
        | (.bad st why, n) => s1.refuse it st why n
        | (.ok steps, _) =>
          match s.orchardBad fn.val it.deadline steps with
          | some (st, why, n) => s1.refuse it st why n
          | none => s1.enterItem it steps)

end Sys2Proof.Machine
end

