-- ==== Sys2Proof/Machine/Place.lean ====
section
/-! DEFINITION. Placement on regions (R17, R76, R77, R90, R119), the entropy-wait list (R89), flows (R87) and
deadlines (R88). -/

namespace Sys2Proof.Machine

/-! ## Readiness of a step -/

/-- A step is ready to be placed (R60, R76). -/
def Item.ready (it : Item) (st : Step) : Bool :=
  it.live && it.flowHead && (it.needs st).all (fun j => match it.step? j with
    | some p => p.phase == .done
    | none => false)

/-! ## Candidates -/

/-- Length of the ready list of a region and class. -/
def State.listLen (s : State) (c : UnitClass) (r : Fin 4) : Nat :=
  s.orc.items.foldl (fun n it =>
    n + (it.steps.filter (fun x => it.serves x && x.phase == .placed && x.entry.cls == c && x.region == r)).length) 0

/-- The candidate with the shortest list, ties to the first after the region chosen last (R76). -/
def State.shortest (s : State) (c : UnitClass) (l : List (Fin 4)) : Option (Fin 4) :=
  let last := s.orc.lastRegion.getD (classCode c - 1) 3
  let order := [last + 1, last + 2, last + 3, last].filter (fun r => l.contains r)
  match order with
  | [] => none
  | a :: t => some (t.foldl (fun b r => if s.listLen c r < s.listLen c b then r else b) a)

/-! ## The entropy-wait list (R89) -/

/-- Generators of the clusters or pairs of a region (R10). -/
def regionGens (c : UnitClass) (r : Fin 4) : List Nat :=
  match c with
  | .pip => (List.range 4).map (fun k => 4 * r.val + k)
  | _ => (List.range 4).map (fun k => 16 + 4 * r.val + k)

/-- Every generator of every eligible region is past its reseed limit. -/
def State.allPast (s : State) (c : UnitClass) (l : List (Fin 4)) : Bool :=
  l.all (fun r => (regionGens c r).all (fun k => (s.gen k).pastLimit))

/-- The entropy a step waits for: none, or true for ZEST and false for CENTRAL. -/
def State.entropyNeed (s : State) (it : Item) (st : Step) : Option Bool :=
  if st.svc ≠ 0 then none
  else if st.entry.entropy && s.rng.drbgFailed then some false
  else if st.entry.zest && s.allPast st.entry.cls (s.candidates it) && !(s.candidates it).isEmpty then some true
  else none

/-! ## Placing -/

/-- Put a step into the ready list of a region, fixing a punnet's family (R76, R77). -/
def State.putPlaced (s : State) (it : Item) (st : Step) (r : Fin 4) : State :=
  let fam := match it.family with
    | some f => some f
    | none => if it.punnet then some (s.region r.val).family else none
  let x := { st with phase := .placed, region := r }
  let it1 := { it.setStep x with family := fam }
  let s1 := s.setItem it1
  let s2 := { s1 with orc := { s1.orc with lastRegion := s1.orc.lastRegion.set (classCode st.entry.cls - 1) r } }
  s2.trace it1 (some x) 0x02 (s2.listLen st.entry.cls r) Verdict.blank none

/-- The region of a family that left service last (R119). -/
def State.lastLost (s : State) (mask : BitVec 16) : Fin 4 :=
  let l := ([0, 1, 2, 3] : List (Fin 4)).filter (fun r => mask.getLsbD (s.region r.val).family)
  match l with
  | [] => 0
  | a :: t => t.foldl (fun b r => if (s.region b.val).lastOut < (s.region r.val).lastOut then r else b) a

/-- No region can take a step (R119), be it that none is in service or that those of its family drain (assumption 55): a first dispatch ends the item, a re-run or the rest of a bulk lane item ends
as REGION_LOST. -/
def State.noRegion (s : State) (it : Item) (st : Step) : State :=
  if st.lost.isSome || st.svc != 0 then
    let res : JobResult := { status := .regionLost, reason := .region st.region }
    if st.secret then
      let due := if st.lost.isSome then st.due else some (s.now + 1)
      s.setItem (it.setStep { st with phase := .staged, res := some res, due := due })
    else if it.punnet then
      s.failItem (it.setStep { st with phase := .done, endAt := some s.now, res := some res })
        { st := .regionLost, why := .region st.region, step := st.num, at_ := s.now }
    else s.failItem it { st := .regionLost, why := .region st.region, at_ := s.now }
  else if it.punnet then
    s.failItem it { st := .regionLost, why := .region (s.lastLost it.mask), step := st.num, at_ := s.now }
  else s.failItem it { st := .versionMismatch, at_ := s.now }

/-- Place a ready step, hold it for entropy, or end its item (R76, R89, R119). -/
def State.placeStep (s : State) (it : Item) (st : Step) : State :=
  match s.entropyNeed it st with
  | some z =>
    let x := { st with phase := .entropy z s.now }
    (s.setItem (it.setStep x)).trace it (some x) 0x04 (flag z) Verdict.blank none
  | none =>
    match s.shortest st.entry.cls (s.candidates it) with
    | some r => s.putPlaced it st r
    | none => s.noRegion it st

/-- ITEM_PLACE (R60, R76, R77, R89, R119). -/
def execItemPlace (seq step : Nat) (s : State) : Host.Outcome State Fault Refusal :=
  .next (match s.item? seq with
    | none => s
    | some it =>
      match it.step? step with
      | none => s
      | some st => if s.up && st.phase == .held && it.ready st then s.placeStep it st else s)

/-- FLOW_ADVANCE (R87): the next item of a flow becomes its first, at a boundary after the earlier one left. -/
def execFlowAdvance (fn : Fin 1024) (flow : Word) (s : State) : Host.Outcome State Fault Refusal :=
  .next (
    if s.orc.flowsPassed.any (fun x => x.1 == fn.val && x.2.1 == flow && decide (x.2.2 < s.now)) then
      let s1 := { s with orc := { s.orc with
        flowsPassed := s.orc.flowsPassed.filter (fun x => !(x.1 == fn.val && x.2.1 == flow)) } }
      match s1.orc.items.find? (fun x => x.counted && x.fn == fn.val && x.flow == flow) with
      | some it => s1.setItem { it with flowHead := true }
      | none => s1
    else s)

/-! ## Expiries -/

/-- The step of an item whose last dispatch tick has passed (R88). -/
def State.expired (s : State) (it : Item) : Option Step :=
  if it.deadline = 0 ∨ !it.live then none
  else it.steps.find? (fun x => x.waiting && x.first.isNone && x.tooLate it.acc it.deadline s.now)

/-- DEADLINE_EXPIRE (R88, R91): the check at the boundary that begins the present tick. -/
def execDeadlineExpire (s : State) : Host.Outcome State Fault Refusal :=
  .next (s.orc.items.foldl (fun a it => match a.expired it with
    | none => a
    | some st =>
      let why := if st.secret then Reason.deadlineUnreachable else Reason.deadlinePassed
      a.failItem it { st := .expired, why := why, step := st.num, at_ := s.now - 1 }) s)

/-- A step placed on a region enters the entropy-wait list when its cause arises (R89). -/
def State.holdStep (s : State) (seq num : Nat) : State :=
  match s.item? seq with
  | none => s
  | some it =>
    match it.step? num with
    | none => s
    | some st =>
      if it.serves st && st.phase == .placed && (s.entropyNeed it st).isSome then s.placeStep it { st with phase := .held }
      else s

def State.holdForEntropy (s : State) : State :=
  s.orc.items.foldl (fun a it => it.steps.foldl (fun b st => b.holdStep it.seq st.num) a) s

/-- The cause an item waits for has ended (R89). -/
def State.entropyBack (s : State) (it : Item) (st : Step) (zest : Bool) : Bool :=
  if zest then !(s.allPast st.entry.cls (s.candidates it)) else !s.rng.drbgFailed

/-- Place every item whose entropy is back, in list order, each with DEFERRED_ENTROPY (R89, R91). -/
def State.entropyRelease (s : State) : State :=
  s.orc.items.foldl (fun a it => it.steps.foldl (fun b st => match st.phase with
    | .entropy z _ =>
      match b.item? it.seq with
      | none => b
      | some cur => if cur.serves st && b.entropyBack cur st z then b.placeStep cur { st with phase := .held, deferred := true } else b
    | _ => b) a) s

/-- ENTROPY_WAIT_TIMEOUT (R89, R91): the tick in which the 50 ms expire has passed, so that a recovery in it has won. -/
def execEntropyWaitTimeout (s : State) : Host.Outcome State Fault Refusal :=
  .next (s.orc.items.foldl (fun a it =>
    match it.steps.find? (fun x => it.serves x && (match x.phase with
        | .entropy _ t => decide (t + 50000 < s.now)
        | _ => false)) with
      | none => a
      | some st =>
        let why := match st.phase with
          | .entropy true _ => Reason.zest
          | _ => Reason.central
        a.failItem it { st := .entropyUnavailable, why := why, step := st.num, at_ := s.now - 1 }) s)

end Sys2Proof.Machine
end

