-- ==== Sys2Proof/Machine/Handover.lean ====
section
/-! DEFINITION. WAITWORK and dispatch: the order of service (R78, R107, R108), the posting budget and port
reservations (R83, R84, R255, R256), use counts (R305) and the hand-over (R80, R81, R104). -/

namespace Sys2Proof.Machine

/-! ## Lane services (R249, R252, R255, R256) -/

/-- Number of fragment services of a lane step. -/
def Step.services (st : Step) : Nat := if st.inFrags.isEmpty then 1 else st.inFrags.length

/-- Bytes of the input stream that come before the first output byte (R249). -/
def Step.lead (st : Step) : Nat :=
  let op := st.d.opcode
  if op = 0x0301 ∨ op = 0x0303 then (if st.d.param < 0x80 then 12 else 0) + st.d.opArg
  else if op = 0x0302 ∨ op = 0x0304 then 12 + st.d.opArg
  else if 0x0305 ≤ op ∧ op ≤ 0x0309 then 16 else 0

/-- Output bytes of a bulk lane item after its first `n` services, the last of which yields all. -/
def Step.outAfter (st : Step) (n : Nat) : Nat :=
  let total := st.outBytes
  let op := st.d.opcode
  if st.services ≤ n then total
  else if n = 0 ∨ !(within op 0x0301 0x0309) then 0
  else
    let gen := if (op = 0x0301 ∨ op = 0x0303) ∧ 0x80 ≤ st.d.param then 12 else 0
    min total (gen + ((st.inFrags.take n).foldl (· + ·) 0 - st.lead))

/-- Output bytes of the service now to run. -/
def Step.svcOut (st : Step) : Nat :=
  if st.d.bulk && st.entry.envFrag != 0 then st.outAfter (st.svc + 1) - st.outAfter st.svc else st.outBytes

def Step.isLane (st : Step) : Bool := st.entry.cls == .cip || st.entry.cls == .dig

/-- The service to run is the item's last. -/
def Step.lastSvc (st : Step) : Bool := decide (st.services ≤ st.svc + 1)

/-- An AEAD decryption streams its plaintext, or holds it (R256). -/
def Step.streams (st : Step) : Bool := isAeadDec st.d.opcode && decide (4194304 < st.outBytes)
def Step.holds (st : Step) : Bool := isAeadDec st.d.opcode && decide (st.outBytes ≤ 4194304)

/-- Ticks of a release or a zeroing of the whole output (R256). -/
def Step.aeadTicks (st : Step) : Nat := ceilDiv st.outBytes 65536

/-- Bytes that a service writes at its due tick. -/
def Step.portBytes (st : Step) : Nat := if st.holds then 0 else st.svcOut

/-! ## Port reservations (R255) -/

/-- Port allowance of a group in bytes per tick. -/
def portCap (c : UnitClass) : Nat := if c = .cip then 131072 else 16384

/-- Bytes a dispatched lane step holds reserved at a tick. -/
def Step.portHeld (st : Step) (tick : Nat) : Nat :=
  match st.due with
  | none => 0
  | some d =>
    if !st.outstanding then 0
    else if isAeadDec st.d.opcode && st.lastSvc then
      (if d ≤ tick ∧ tick < d + st.aeadTicks then 65536 else 0)
    else if d = tick then st.portBytes else 0

/-- Bytes reserved in a lane group at a tick. -/
def State.portReserved (s : State) (c : UnitClass) (r : Fin 4) (tick : Nat) : Nat :=
  s.orc.items.foldl (fun n it => if it.punnet then n else
    n + ((it.steps.filter (fun x => x.entry.cls == c && x.region == r && x.secret)).foldl
      (fun m x => m + x.portHeld tick) 0)) 0

/-- The port can take a service due at a tick (R255, R256). -/
def State.portFits (s : State) (it : Item) (st : Step) (r : Fin 4) (due : Nat) : Bool :=
  if it.punnet || !st.isLane || !st.secret then true
  else if isAeadDec st.d.opcode && st.lastSvc then
    (List.range st.aeadTicks).all (fun k =>
      decide (s.portReserved st.entry.cls r (due + k) + 65536 ≤ portCap st.entry.cls))
  else decide (s.portReserved st.entry.cls r due + st.portBytes ≤ portCap st.entry.cls)

/-! ## The posting budget (R83, R84) -/

/-- Latest due tick of a punnet's dispatched secret steps, or a single item's. -/
def Item.lastDue (it : Item) : Option Nat :=
  it.steps.foldl (fun m x => match x.due, m with
    | some d, some e => some (max d e)
    | some d, none => some d
    | none, _ => m) none

/-- A dispatched step may still be extended to a tick (R83). -/
def Step.mayExtendTo (st : Step) (tick : Nat) : Bool :=
  st.entry.ext && !st.extended && st.secret && st.outstanding && (match st.disp with
    | some d => d + 2 * st.entry.env == tick
    | none => false)

/-- Output bytes that an item reserves; lane outputs of single items are the port's (R84, R255). -/
def Item.outBudget (it : Item) : Nat :=
  if it.punnet then it.steps.foldl (fun n x => n + x.outBytes) 0
  else (it.steps.filter (fun x => !x.isLane)).foldl (fun n x => n + x.outBytes) 0

/-- The ticks in which an item holds a reservation. -/
def Item.reservedAt (it : Item) (tick : Nat) : Bool :=
  it.steps.any (fun x => x.secret && x.due.isSome && (!x.isLane || it.punnet || x.lastSvc))
    && (it.lastDue == some tick || it.steps.any (·.mayExtendTo tick))

/-- Entries and bytes reserved at a tick by items other than one. -/
def State.reserved (s : State) (seq tick : Nat) : Nat × Nat :=
  (s.orc.items.filter (fun it => it.seq != seq && it.reservedAt tick)).foldl
    (fun n it => (n.1 + 1, n.2 + it.outBudget)) (0, 0)

def State.tickFits (s : State) (it : Item) (tick : Nat) : Bool :=
  let u := s.reserved it.seq tick
  decide (u.1 + 1 ≤ 512) && decide (u.2 + it.outBudget ≤ 65536)

/-- The first due tick that cannot be reserved for a secret step, if any (R83, R84). -/
def State.budgetBad (s : State) (it : Item) (st : Step) (r : Fin 4) : Option Nat :=
  if !st.secret then none
  else
    let due := s.now + st.envNow
    let ext := s.now + 2 * st.envNow
    let moves := match it.lastDue with
      | some d => !it.punnet || decide (d < due)
      | none => true
    let entry := !st.isLane || it.punnet || st.lastSvc
    if decide (65536 ≤ s.delayCount) && !it.inDelay then some due
    else if moves && entry && !s.tickFits it due then some due
    else if st.entry.ext && !s.tickFits it ext then some ext
    else if !s.portFits it st r due then some due
    else none

/-! ## Units -/

/-- Units of a class that a throttle level admits (R436). -/
def throttleUnits (c : UnitClass) (level : Nat) : Nat :=
  match c with
  | .pip => pick [32, 24, 16, 8, 4] level
  | .med => pick [8, 6, 4, 2, 1] level
  | .cip => pick [2, 2, 1, 1, 1] level
  | .dig => pick [4, 3, 2, 1, 1] level

/-- Numbers of the units of a class in a region, lowest first. -/
def regionUnits (c : UnitClass) (r : Fin 4) : List Nat :=
  (List.range (classPerRegion c)).map (fun k => classPerRegion c * r.val + k)

/-- Units in service that the throttle level admits (R436). -/
def State.openUnits (s : State) (c : UnitClass) (r : Fin 4) : List Nat :=
  ((regionUnits c r).filter (fun n => (s.cell c n).inService)).take (throttleUnits c (s.region r.val).thermal)

/-- A unit's generator serves a step that needs it (R89, R134, R135). -/
def State.genServes (s : State) (c : UnitClass) (n : Nat) (st : Step) : Bool :=
  !st.entry.zest || ((s.gen (genKey c n)).seeded && !(s.gen (genKey c n)).pastLimit)

/-- The unit that has waited longest among those that may take a step, ties to the lowest number (R80). -/
def State.pickUnit (s : State) (c : UnitClass) (r : Fin 4) (st : Step) : Option Nat :=
  let l := (s.openUnits c r).filter (fun n => (s.cell c n).waiting.isSome && (s.cell c n).job.isNone && s.genServes c n st)
  match l with
  | [] => none
  | a :: t => some (t.foldl (fun b n =>
      if (s.cell c n).waiting.getD 0 < (s.cell c b).waiting.getD 0 then n else b) a)

/-! ## The order of service (R78, R107) -/

/-- The tenant is within its committed rate (R105). -/
def Share.within (h : Share) : Bool := decide (0 < h.cfg.commit) && decide (0 < h.commitAcc)

/-- The steps of a ready list, in acceptance order. -/
def State.readyList (s : State) (c : UnitClass) (r : Fin 4) : List (Item × Step) :=
  s.orc.items.foldl (fun l it =>
    l ++ ((it.steps.filter (fun x => it.serves x && x.phase == .placed && x.entry.cls == c && x.region == r)).map
      (fun x => (it, x)))) []

/-- Transaction before bulk, then earliest acceptance. -/
def firstOf (l : List (Item × Step)) : Option (Item × Step) :=
  match l.find? (fun x => !x.1.bulk) with
  | some x => some x
  | none => l.head?

/-- The next tenant after `t` in tenant-number order among some tenants, wrapping. -/
def nextTenant (l : List Nat) (t : Nat) : Nat :=
  let above := l.filter (fun x => decide (t < x))
  let pool := if above.isEmpty then l else above
  pool.foldl (fun m x => min m x) (pool.headD 0)

/-- The loop of R107 over one list: `l` are the tenants with an item of the CLASS to be served, `all` those with any item above
the committed rate in the list. -/
def wdrrLoop (weight : Nat → Nat) (key : Nat) (l all : List Nat) : Nat → Nat → Tab Int → Nat × Tab Int
  | 0, t, d => (t, d)
  | n + 1, t, d =>
    if l.contains t && decide (0 < Tab.get 0 d (deficitKey key t)) then (t, d)
    else
      let d1 := if all.contains t then d else Tab.put 0 d (deficitKey key t) 0
      let u := nextTenant l t
      wdrrLoop weight key l all n u
        (Tab.put 0 d1 (deficitKey key u) (Tab.get 0 d1 (deficitKey key u) + Int.ofNat (64 * weight u)))

/-- Rounds that are enough for some tenant's deficit to rise above 0. -/
def wdrrFuel (d : Tab Int) (key : Nat) (l : List Nat) : Nat :=
  (l.length + 1) * (2 + l.foldl (fun m t => max m ((-(Tab.get 0 d (deficitKey key t))).toNat / 64 + 1)) 0)

/-- What a pick chose: the step, whether by deficit round robin, and the list state after it. -/
structure Pick where
  it : Item
  st : Step
  wdrr : Bool := false
  current : Option (Nat × Nat) := none
  deficit : Option (Tab Int) := none

/-- The first of a ready list in the order of R78, R90 and R107: CLASS stands above the round robin (R78). -/
def State.pickOf (s : State) (c : UnitClass) (r : Fin 4) (l : List (Item × Step)) : Option Pick :=
  match l with
  | [] => none
  | a :: t =>
    let p := t.foldl (fun m x => min m x.1.prio) a.1.prio
    let lp := l.filter (fun x => x.1.prio == p)
    match lp.find? (fun x => x.2.lost.isSome) with
    | some x => some { it := x.1, st := x.2 }
    | none =>
      match firstOf (lp.filter (fun x => (s.fn x.1.fn).share.within)) with
      | some x => some { it := x.1, st := x.2 }
      | none =>
        let key := listKey c r.val p
        let all := (lp.map (fun x => x.1.fn)).eraseDups
        let lc := if lp.any (fun x => !x.1.bulk) then lp.filter (fun x => !x.1.bulk) else lp
        let ts := (lc.map (fun x => x.1.fn)).eraseDups
        let w := wdrrLoop (fun t => (s.fn t).share.cfg.weight) key ts all (wdrrFuel s.orc.deficit key ts)
          (Tab.get 1023 s.orc.current key) s.orc.deficit
        match (lc.filter (fun x => x.1.fn == w.1)).head? with
        | some x => some { it := x.1, st := x.2, wdrr := true, current := some (key, w.1), deficit := some w.2 }
        | none => none

def State.markShaped (s : State) (l : List Nat) : State :=
  { s with orc := { s.orc with items := s.orc.items.map (fun x =>
    if l.contains x.seq then { x with shaped := true } else x) } }

/-! ## Checks at the dispatch attempt -/

/-- A stored key named by a handle is gone (R312). -/
def State.keyGone (s : State) (it : Item) (h : QWord) : Bool :=
  if h == noKey || (pendingKey it.steps h).isSome then false
  else if hLoc h = 0 then !(s.slot (hTenant h) (hIndex h)).occ
  else if hLoc h = 1 then !(s.blob (hTenant h) (hIndex h)).occ
  else false

/-- The first key is named by KEY_HANDLE, and KEY2_HANDLE names a key to use. -/
def Step.usesHandle (st : Step) : Bool :=
  !selValid st.lk.keysrc && (keyMode st.d.opcode st.d.param == .need || keyMode st.d.opcode st.d.param == .inline)
def Step.usesSecond (st : Step) : Bool := st.dest.isNone && (st.d.opcode == 0x0401 || st.wraps)

/-- Why a dispatch attempt ends the item (R305, R312). -/
def State.attemptBad (s : State) (it : Item) (st : Step) : Option Status :=
  if st.svc ≠ 0 then none
  else if (st.usesHandle && s.keyGone it st.d.key) || (st.usesSecond && s.keyGone it st.d.key2) then some .keyAbsent
  else if st.counted then
    let k := s.slot (hTenant st.d.key) (hIndex st.d.key)
    if k.limit ≤ k.uses then some .keyUsage else none
  else none

/-- Use counts committed in the present second (R305). -/
def State.usesNow (s : State) : Nat := if s.vlt.usesSec = s.now / 1000000 then s.vlt.usesThisSec else 0

/-- Commit a use of a COUNTED key before the unit loads it (R305). -/
def State.takeUse (s : State) (st : Step) : State :=
  if st.counted && st.svc == 0 then
    let n := s.usesNow
    let s1 := s.commitUse (hTenant st.d.key) (hIndex st.d.key)
    s1.setVlt { s1.vlt with usesSec := s.now / 1000000, usesThisSec := n + 1 }
  else s

/-- Use-count capacity is free, or the step needs none. -/
def State.useFits (s : State) (st : Step) : Bool := !(st.counted && st.svc == 0) || decide (s.usesNow < 200000)

/-- The last tick in which a step may be dispatched for the first time has passed (R88): the deadline check comes first (R91). -/
def Item.pastDeadline (it : Item) (st : Step) (now : Nat) : Bool :=
  it.deadline != 0 && st.first.isNone && st.tooLate it.acc it.deadline now

/-- A step of a ready list that the pick may choose: no halt, no passed deadline and no want of a key or use count stops it,
and a waiting unit can take it (R80, R88, R89, R305, R379). -/
def State.eligible (s : State) (c : UnitClass) (r : Fin 4) (x : Item × Step) : Bool :=
  !(x.2.secret && s.halted) && !x.1.pastDeadline x.2 s.now && (s.attemptBad x.1 x.2).isNone && s.useFits x.2
    && (s.pickUnit c r x.2).isSome

/-- The eligible items that a pick passes over by key 2 or key 4b alone (R108). -/
def State.passedOver (s : State) (c : UnitClass) (r : Fin 4) (p : Pick) (l : List (Item × Step)) : List Nat :=
  let inn := (s.fn p.it.fn).share.within
  ((l.filter (fun x => x.1.seq != p.it.seq && x.1.prio == p.it.prio && p.st.lost.isNone && x.2.lost.isNone
    && !(s.fn x.1.fn).share.within && s.eligible c r x
    && (inn || (x.1.fn != p.it.fn && x.1.bulk == p.it.bulk)))).map (fun x => x.1.seq))

/-- The reads of host memory that a dispatched service begins: its input, for a bulk lane item one fragment of it, and a
host-held blob (R24, R56, R297). Without Bus Master Enable nothing is read. -/
def Step.reads (st : Step) : List (QWord × Nat) :=
  (if st.isLane && st.d.bulk then
      (segTake (segDrop st.ins ((st.inFrags.take st.svc).foldl (· + ·) 0)) (st.inFrags.getD st.svc 0)).1
    else st.ins)
  ++ (if st.usesHandle && hLoc st.d.key == 2 && st.d.key != noKey then [(BitVec.ofNat 64 (64 * hIndex st.d.key), 48)] else [])

def State.readHost (s : State) (fn : Nat) (l : List (QWord × Nat)) : State :=
  if (s.fn fn).port.bme then l.foldl (fun a x => if x.2 = 0 then a else a.emit (.readReq fn x.1 x.2)) s else s

/-! ## Dispatch -/

/-- A dispatched Classic McEliece key generation keeps its working matrix sealed in staging (R190); one seal stands for its row
panels (assumption 56). -/
def State.sealWork (s : State) (seq : Nat) (st : Step) : State :=
  if st.working = 0 then s else s.sealOne seq st.num st.working

/-- A secret key in front of an engine: its length, the place of its bytes, its attribute word and its tenant. -/
structure SecretKey where
  len : Nat
  at_ : Nat
  attr : QWord
  tenant : Nat

/-- The secret key that a dispatched job loads through the vault transfer port: of a vault slot, a key-store blob, a host-held blob
or an internal value (R137). What a blob in host memory holds, and an internal value that no key generation made, are open. -/
def State.secretKey (s : State) (it : Item) (st : Step) : Option SecretKey :=
  let mode := keyMode st.d.opcode st.d.param
  if !st.secret || mode == .none || mode == .dest then none
  else if selValid st.lk.keysrc then
    match it.step? (selFrom st.lk.keysrc) with
    | none => none
    | some p =>
      (p.entry.outs[selOut st.lk.keysrc]?).map (fun o =>
        { len := o.len, at_ := if isKeygen p.d.opcode then p.genAt else s.free, attr := o.key.getD 0, tenant := it.fn })
  else if st.d.key == noKey || wantsPub st.d.opcode then none
  else
    let t := hTenant st.d.key
    let n := hIndex st.d.key
    if hLoc st.d.key = 0 then some { len := (s.slot t n).len, at_ := (s.slot t n).secAt, attr := (s.slot t n).attr, tenant := t }
    else if hLoc st.d.key = 1 then some { len := (s.blob t n).len, at_ := (s.blob t n).secAt, attr := (s.blob t n).attr, tenant := t }
    else some { len := (Config.freeWord s.free).toNat % 8192, at_ := s.free, attr := (Config.freeKey s.free).setWidth 64, tenant := it.fn }

/-- At least the bytes of a key, and of what a job draws when it begins. -/
def keyMax : Nat := 65536

/-- An engine begins a job (R79, R137, R189): its sequencer stands at the first word of the operation, and the vault transfer port
begins to load the secret key in the shares of its form, into the key register or the window. The draws from `keyMax` on split it. -/
def State.startJob (s : State) (it : Item) (st : Step) (c : UnitClass) (n : Nat) : State :=
  if c.isLane then s
  else
    let k := s.cell c n
    let store := s.cluster (if c = .med then 16 + n / 8 else n / 8)
    let core := { k.core with
      op := st.d.opcode, param := st.d.param, ended := false, sinceSafe := 0
      pc := Config.jobEntry store.family store.version st.d.opcode st.d.param }
    let k1 := { k with core := core }
    let k2 := match s.secretKey it st with
      | none => k1
      | some x => k1.loadKey { shares := sharesOf c st.d.opcode, len := x.len, key := x.at_, mask := s.free + keyMax
                               window := usesWindow st.d.opcode, attr := x.attr, tenant := x.tenant }
    (s.setCell c n k2).draw (3 * keyMax)

/-- Dispatch counters (R151, R243, R262). -/
def State.countDispatch (s : State) (c : UnitClass) (n : Nat) : State :=
  match c with
  | .pip =>
    let k := s.cluster (n / 8)
    s.setCluster (n / 8) { k with dispatch := k.dispatch + 1 }
  | _ =>
    let key := match c with
      | .med => 16 + n / 2
      | .cip => 32 + n / 2
      | _ => 36 + n / 4
    s.setEng { s.eng with counts := Tab.put 0 s.eng.counts key (Tab.get 0 s.eng.counts key + 1) }

/-- Hand a step over to a unit (R80 to R84, R104). -/
def State.handOver (s : State) (p : Pick) (c : UnitClass) (r : Fin 4) (n : Nat) : State :=
  let now := s.now
  let st := p.st
  let it := p.it
  let since := match st.lost with
    | some t => t
    | none => if it.punnet then it.avail st else it.acc
  let x := { st with
    phase := .running, unit := n, region := r, disp := some now, first := some (st.first.getD now)
    due := if st.secret then some (now + st.envNow) else none, extended := false, res := none, stop := none
    wait := if st.svc = 0 ∨ st.lost.isSome then st.wait + (now - since) else st.wait
    lost := none, heldAt := none, genAt := s.free + 2 * keyMax, wdrr := p.wdrr, charged := if st.secret then st.envNow else st.charged }
  let it1 := { it.setStep x with retried := it.retried || st.lost.isSome }
  let s1 := (s.takeUse st).setItem it1
  let s2 := if st.secret then s1.chargeStep it1 x (-(Int.ofNat st.envNow)) else s1
  let k := s2.cell c n
  let s3 := ((s2.setCell c n { k with waiting := none, job := some (it.seq, st.num)
                                      gf := gfActive st.d.opcode st.d.param }).startJob it1 x c n).countDispatch c n
  let s4 := match st.lost with
    | some _ => s3.trace it1 (some x) 0x0C st.lostFrom Verdict.blank (some n)
    | none => s3
  let s5 := s4.trace it1 (some x) 0x06 (if st.secret then st.envNow else 0) Verdict.blank (some n)
  let s6 := (s5.readHost it.fn x.reads).sealWork it.seq x
  { s6 with orc := { s6.orc with delayPeak := max s6.orc.delayPeak s6.delayCount } }

/-- Hold a secret step back for the tick, and count the tick (R83, R92, R97). -/
def State.budgetWait (s : State) (p : Pick) (due : Nat) : State :=
  let s1 := (s.setItem (p.it.setStep { p.st with heldAt := some s.now })).trace p.it (some p.st) 0x05 due Verdict.blank none
  if s1.orc.budgetAt = some s1.now then s1
  else { s1 with orc := { s1.orc with budgetAt := some s1.now, budgetWaits := satSucc s1.orc.budgetWaits } }

/-- Keep what a deficit pick did to its list (R107). -/
def State.keepPick (s : State) (p : Pick) : State :=
  match p.current, p.deficit with
  | some (key, t), some d =>
    { s with orc := { s.orc with current := Tab.put 1023 s.orc.current key t, deficit := d } }
  | _, _ => s

/-- Try the steps of a ready list in order until one is handed over, ends, or cannot be reserved (R80, R83). -/
def State.tryDispatch (s : State) (c : UnitClass) (r : Fin 4) : Nat → List (Item × Step) → State
  | 0, _ => s
  | n + 1, l =>
    match s.pickOf c r l with
    | none => s
    | some p =>
      let rest := l.filter (fun x => !(x.1.seq == p.it.seq && x.2.num == p.st.num))
      if (p.st.secret && s.halted) || p.it.pastDeadline p.st s.now then s.tryDispatch c r n rest
      else if p.st.heldAt = some s.now then s
      else match s.attemptBad p.it p.st with
        | some st =>
          (s.failItem p.it { st := st, step := p.st.num, at_ := s.now }).tryDispatch c r n
            (rest.filter (fun x => x.1.seq != p.it.seq))
        | none =>
          if !s.useFits p.st then s.tryDispatch c r n rest
          else match s.pickUnit c r p.st with
            | none => s.tryDispatch c r n rest
            | some u =>
              match s.budgetBad p.it p.st r with
              | some due => s.budgetWait p due
              | none =>
                let s1 := s.markShaped (s.passedOver c r p l)
                ((s1.keepPick p).handOver { p with it := (s1.item? p.it.seq).getD p.it } c r u)

/-- DISPATCH (R78 to R84, R104, R107, R255, R305, R312): the region slice hands its next item of a class over. -/
def execDispatch (cls : UnitClass) (region : Fin 4) (s : State) : Host.Outcome State Fault Refusal :=
  let l := s.readyList cls region
  .next (
    if s.up && s.pwr.state = 0 && !s.pwr.exiting && (s.region region.val).inService then
      s.tryDispatch cls region (l.length + 1) l
    else s)

/-- WAITWORK (R80, R141, R146, R192): a unit whose scrub has ended asks for work. -/
def execWaitwork (cls : UnitClass) (unit : Nat) (s : State) : Host.Outcome State Fault Refusal :=
  if !unitOk cls unit then .fault .noSuchUnit
  else
    let k := s.cell cls unit
    .next (
      if s.up && k.job.isNone && !k.scrubbing && k.waiting.isNone && (cls != .pip || decide (0 ≤ k.credit)) then
        s.setCell cls unit { k with waiting := some s.now }
      else s)

end Sys2Proof.Machine
end

