-- ==== Sys2Proof/Machine/Engine.lean ====
section
/-! DEFINITION. What happens on an engine or a lane between dispatch and WAITWORK: the ends of jobs (R141, R167, R168,
R172, R247), stops and faults (R144, R145, R193), the scrub (R146), and the re-placing of work of a region that
leaves service (R90, R119). -/

namespace Sys2Proof.Machine

/-! ## Re-placing (R90, R119) -/

/-- Place a step again when the region it was placed on no longer takes it. A lane item between fragment services
whose region is lost is resumed, with RETRIED (R119). -/
def State.rehomeStep (s : State) (seq num : Nat) : State :=
  match s.item? seq with
  | none => s
  | some it =>
    match it.step? num with
    | none => s
    | some st =>
      if it.serves st && st.phase == .placed && !((s.candidates it).contains st.region) then
        let resumed := st.svc != 0 && !(s.region st.region.val).inService && !(s.candidates it).isEmpty
        s.placeStep { it with retried := it.retried || resumed } { st with phase := .held }
      else s

/-- Move every placed step whose region is lost or drains (R90, R119); with the regions that are left a step may have to wait
for entropy (R89). -/
def State.rehome (s : State) : State :=
  (s.orc.items.foldl (fun a it => it.steps.foldl (fun b st => b.rehomeStep it.seq st.num) a) s).holdForEntropy

/-- The region of a unit is lost when its last unit is gone (R394), and its work moves. -/
def State.unitGone (s : State) (c : UnitClass) (n : Nat) : State := (s.checkDead (unitRegion c n)).rehome

/-! ## The job of a unit -/

/-- The item and step that a unit runs. -/
def State.jobOf (s : State) (c : UnitClass) (n : Nat) : Option (Item × Step) :=
  match (s.cell c n).job with
  | none => none
  | some (seq, num) =>
    match s.item? seq with
    | none => none
    | some it =>
      match it.step? num with
      | some st => if st.unit = n ∧ st.entry.cls = c then some (it, st) else none
      | none => none

/-- A job that runs and has no stop pending. -/
def State.runningJob (s : State) (c : UnitClass) (n : Nat) : Option (Item × Step) :=
  match s.jobOf c n with
  | some (it, st) => if st.phase == .running && st.stop.isNone && !(s.cell c n).scrubbing then some (it, st) else none
  | none => none

/-- The step is a bulk service of a single lane item (R86, R252). -/
def Step.isService (st : Step) : Bool := st.isLane && st.d.bulk

/-- Begin the scrub of a unit (R146); its keystream takes 256 fresh bits (R131). A Pip engine's activity credit pays for the GF-active cycles that are still open of a job
that ended by itself (R192); after a stop or a fault a negative credit becomes 0 (R193). -/
def State.beginScrub (s : State) (c : UnitClass) (n : Nat) (stopped : Bool) : State :=
  let k := s.cell c n
  (s.setCell c n { k with
    scrubbing := true, core := { k.core with scrubKey := some s.free }, gf := 0, credit := if stopped then max k.credit 0 else k.credit - 5 * Int.ofNat k.gf }).draw 32

/-! ## Ends of jobs -/

/-- The step uses a host-held blob (R56, R297). -/
def Step.hostHeld (st : Step) : Bool :=
  (st.usesHandle && st.d.key != noKey && hLoc st.d.key == 2) || (st.usesSecond && st.d.key2 != noKey && hLoc st.d.key2 == 2)

/-- The USAGE words of R274 for a key type: the modes of use E, D, B, G, V, C, X and N narrow them. -/
def importUsages (t : Nat) : List Nat :=
  let kek := [uWrap, uUnwrap, uWrap + uUnwrap]
  if t = 0x01 ∨ t = 0x10 then
    [uPin, uMac, uMac + uSign, uMac + uVerify, uEncrypt, uDecrypt, uEncrypt + uDecrypt] ++ kek
  else if within t 0x11 0x13 then [uDerive]
  else if within t 0x14 0x15 then [uEmv]
  else if t = 0x16 then kek
  else []

/-- A key that X9.143 import accepts, by its attribute word and length (R274, R293): SECRET is 1, EXPORTABLE as the block gives,
every other attribute 0. -/
def importAttr (a : QWord) (len : Nat) : Bool :=
  let t := aType a
  (importUsages t).contains (aUsage a) && a.toNat % 2 ^ 28 == 2 ^ 25 && a.toNat / 2 ^ 29 % 8 == 0
    && (if t = 0x01 ∨ t = 0x12 ∨ t = 0x14 then within (aParam a) 1 3 && len == 8 * (aParam a + 1)
        else if t = 0x13 then within (aParam a) 1 3 && within len 16 40
        else if t = 0x16 then aParam a == 0x10 && len == 16 || aParam a == 0x01 && within len 16 32 && len % 8 == 0
        else len == 16)

/-- A job of a step reads a sealed value or a lane context from HBM: a key of the key store, an input that a step before it
sealed, its own working matrix, or a context record without an on-chip copy (R190, R207, R253, R296). -/
def State.unseals (s : State) (seq : Nat) (st : Step) : Bool :=
  (st.usesHandle && st.d.key != noKey && hLoc st.d.key == 1) || (st.usesSecond && st.d.key2 != noKey && hLoc st.d.key2 == 1)
    || s.hbm.sealed.any (fun x => x.seq == seq && (((st.lk.srcs.filter selValid).map selFrom).contains x.step
        || (x.step == st.num && st.working != 0)))
    || (st.svc != 0 && !s.eng.slots.any (fun c => c.seq == seq && c.step == st.num
        && s.hbm.sealed.any (fun x => x.seq == seq && x.step == st.num && x.ctr == c.ctr)))

/-- The ends that a job of a step can come to after dispatch: the statuses of its opcode and of a host-held blob, with no
reason, or a failed unseal where it unseals something (R66, R68, R168, R171, R195, R207, R237, R258, R274, R275, R277, R297). -/
def jobEnds (unseals : Bool) (st : Step) (r : JobResult) : Bool :=
  if r.status = .deviceFault then unseals && r.reason == .engineFault
  else r.reason == .none
    && (st.d.opcode != 0x0431 || r.status != .ok || importAttr r.keyAttr r.keyLen)
    && ((endStatuses st.d.opcode st.d.opArg (st.d.key == noKey && !selValid st.lk.keysrc) (selValid st.lk.keysrc)).contains r.status
      || (st.hostHeld && blobStatuses.contains r.status))

/-- A sealed value failed to unseal (R207): it is counted and its source raised. -/
def State.unsealFail (s : State) : State :=
  ({ s with hbm := { s.hbm with sealFail := satSucc s.hbm.sealFail } }).raise 14 0xFF 0

/-- A key generated or imported with an attribute word that R294 forbids ends the job with ST_BAD_RANGE (R161,
R274). -/
def checkNewKey (fn : Nat) (st : Step) (r : JobResult) : JobResult :=
  let k := ({ st with res := some r }).newKey
  let slot := match st.dest with
    | some (h, 0) => hIndex h
    | _ => 3
  if hasDest st.d.opcode && r.status == .ok && !(attrOk fn slot k.1) then { status := .badRange } else r

/-- A job ends with a result: its Pulp lookup is counted (R212) and an entry that failed its authentication is recorded
(R207). -/
def State.resolveJob (s : State) (it : Item) (st : Step) (r : JobResult) : State × Step :=
  let p := s.pulpLookup it.fn st r
  let s1 := if p.2.2 then
      (p.1.setPulp { p.1.pulp with integFail := satSucc p.1.pulp.integFail }).unsealFail
    else p.1
  (s1, { st with res := some r, pulpMiss := st.pulpMiss || p.2.1 })

/-- Seal what a finished job leaves in HBM staging: the outputs above 4 KiB that are no key, where it yields them (R206). A bulk
lane service's output stays in Currant result staging (R255) but for the plaintext of a held decryption (R256). -/
def State.sealOuts (s : State) (seq : Nat) (st : Step) (r : JobResult) : State :=
  let x := { st with res := some r }
  if !x.yields then s
  else if st.isService then (if st.holds && decide (0 < st.svcOut) then s.sealOne seq st.num st.svcOut else s)
  else ((List.range st.entry.outs.length).zip st.entry.outs).foldl (fun a o =>
    if o.2.onChip then a else a.sealOne seq st.num (x.actual o.1 o.2).1) s

/-- Move the due tick of an extendable step that is not staged (R85). -/
def State.extend (s : State) (it : Item) (st : Step) : State :=
  let due := st.disp.getD 0 + 2 * st.entry.env
  let x := { st with extended := true, due := some due }
  let s1 := s.setItem (it.setStep x)
  ({ s1 with orc := { s1.orc with extend := s1.orc.extend + 1 } }).trace it (some x) 0x08 due Verdict.blank (some x.unit)

/-- The boundary of the step's due tick is over and the step was not staged before it (R85, R91). -/
def Step.overdue (st : Step) (now : Nat) : Bool :=
  st.phase == .running && (match st.due with
    | some d => decide (d ≤ now)
    | none => false)

/-- STAGE_END (R85, R91, R98, R141, R168, R206): the outputs or the status of a secret job are staged, and the scrub begins. What
is staged in the boundary cycle of the due tick or later counts as not staged: an extendable step is extended first, and any
other is left to its fault. Nothing that a register or the trace shows changes; the Pulp lookup counts at the due tick. -/
def State.stageJob (s : State) (c : UnitClass) (n : Nat) (it : Item) (st : Step) (r : JobResult) : State :=
  let r1 := checkNewKey it.fn st r
  let late := st.overdue s.now
  let ext := late && st.entry.ext && !st.extended
  let s1 := if ext then s.extend it st else s
  match s1.item? it.seq with
  | none => s1
  | some cur =>
    match cur.step? st.num with
    | none => s1
    | some x =>
      let s2 := if late && !ext then s1 else (s1.sealOuts it.seq x r1).setItem
        (cur.setStep { x with phase := .staged, res := some r1, sealBad := r1.status == .deviceFault })
      s2.beginScrub c n false

def execStageEnd (cls : UnitClass) (unit : Nat) (res : JobResult) (s : State) : Host.Outcome State Fault Refusal :=
  if !unitOk cls unit then .fault .noSuchUnit
  else .next (match s.runningJob cls unit with
    | some (it, st) =>
      if st.secret && !st.isService && jobEnds (s.unseals it.seq st) st res then s.stageJob cls unit it st res else s
    | none => s)

/-- Charge a public service its compute ticks, at least 1 (R104). -/
def State.chargePublic (s : State) (it : Item) (st : Step) : State × Step :=
  let us := max 1 (s.now - st.disp.getD s.now)
  (s.chargeStep it st (-(Int.ofNat us)), { st with charged := st.charged + us })

/-- A public step ends (R16, R67, R69): it posts or goes on at once, or its posting port begins to write (R255). -/
def State.endPublic (s : State) (it : Item) (st : Step) (r : JobResult) : State :=
  let a := s.chargePublic it st
  let b := a.1.resolveJob it a.2 (checkNewKey it.fn st r)
  let c := b.1.trace it (some b.2) 0x07 b.2.charged Verdict.blank (some st.unit)
  match c.item? it.seq with
  | none => c
  | some cur =>
    if st.isLane && !it.punnet && b.2.yields && decide (0 < st.outBytes) then
      c.setItem (cur.setStep { b.2 with phase := .port, portLeft := st.outBytes, portAt := some c.now })
    else c.endStep cur b.2

/-- PUBLIC_END (R67, R104): a public operation ends and its completion posts as soon as it is done. A failed unseal
ends as R120 gives, with the scrub (R207). -/
def execPublicEnd (cls : UnitClass) (unit : Nat) (res : JobResult) (s : State) : Host.Outcome State Fault Refusal :=
  if !unitOk cls unit then .fault .noSuchUnit
  else .next (match s.runningJob cls unit with
    | some (it, st) =>
      if !st.secret && !st.isService && jobEnds (s.unseals it.seq st) st res then
        if res.status = .deviceFault then
          (s.setItem (it.setStep { st with phase := .scrub, res := some res, stop := some .overrun })).unsealFail.beginScrub
            cls unit true
        else (s.endPublic it st res).beginScrub cls unit false
      else s
    | none => s)

/-- End a job by an invariant failure (R172). -/
def State.failJob (s : State) (c : UnitClass) (n : Nat) (it : Item) (st : Step) : State :=
  let res := faultRes .invariant
  let s1 := if st.secret then s.setItem (it.setStep { st with phase := .staged, res := some res })
    else
      let a := s.chargePublic it st
      a.1.endStep it { a.2 with res := some res }
  s1.beginScrub c n false

/-- The invariant failure of an engine's job: the item ends with INVARIANT, the source is raised and the engine leaves service
(R172, R393). -/
def State.invarFail (s : State) (c : UnitClass) (n : Nat) (it : Item) (st : Step) : State :=
  (((s.failJob c n it st).takeUnits (srcInvar c n) c [n]).raise (srcInvar c n) n 0).unitGone c n

/-- FAIL (R141, R172): an invariant check fails. -/
def execFail (cls : UnitClass) (unit : Nat) (s : State) : Host.Outcome State Fault Refusal :=
  if !unitOk cls unit then .fault .noSuchUnit
  else .next (match s.runningJob cls unit with
    | some (it, st) => if st.isLane then s else s.invarFail cls unit it st
    | none => s)

/-- The dispatched service reads host memory (R166: what reads nothing has no allowance). -/
def Step.readsHost (st : Step) : Bool := st.hostHeld || st.reads.any (fun x => x.2 != 0)

/-- The host-read allowance of a secret job is over: its reads are late when they have not completed by then (R166, R183). -/
def Step.allowanceOver (st : Step) (now : Nat) : Bool :=
  match st.disp with
  | some d => decide (1000 * d + opAllow st.d.opcode st.d.param < 1000 * (now + 1))
  | none => false

/-- A secret job ends before its work on secrets begins, because its host reads are late (R167, R254). -/
def State.readsLate (s : State) (c : UnitClass) (n : Nat) : State :=
  match s.runningJob c n with
  | some (it, st) =>
    if st.secret && st.readsHost && (c.isLane || st.allowanceOver s.now) then
      let res : JobResult := { status := .badDescriptor, reason := .hostReadFail }
      ((s.setItem (it.setStep { st with phase := .staged, res := some res })).fnEvent it.fn evReadFail).beginScrub
        c n true
    else s
  | none => s

/-- HOST_READ_ALLOWANCE_EXPIRE (R37, R167, R168). -/
def execHostReadAllowanceExpire (cls : UnitClass) (unit : Nat) (s : State) : Host.Outcome State Fault Refusal :=
  if !unitOk cls unit then .fault .noSuchUnit
  else .next (if cls.isLane then s else s.readsLate cls unit)

/-! ## Stops and faults -/

/-- The unit runs a job that has been asked to stop: its item was cancelled, halted or overran, or is gone with a
function reset (R71, R85, R117, R379). -/
def State.stopPending (s : State) (c : UnitClass) (n : Nat) : Bool :=
  (s.cell c n).job.isSome && !(s.cell c n).scrubbing && (match s.jobOf c n with
    | some (_, st) => st.stop.isSome || st.phase != .running
    | none => true)

/-- SAFE_POINT_STOP (R144, R146, R147): the pending request takes effect, and the scrub begins. -/
def execSafePointStop (cls : UnitClass) (unit : Nat) (s : State) : Host.Outcome State Fault Refusal :=
  if !unitOk cls unit then .fault .noSuchUnit
  else .next (if s.stopPending cls unit then s.beginScrub cls unit true else s)

/-- The end of a job that an uncorrected fault hits (R120, R145). -/
def Step.faulted (st : Step) : Step :=
  { st with phase := if st.secret then .staged else .scrub, res := some (faultRes .engineFault), stop := some .overrun }

/-- An uncorrected fault of a unit (R120, R145, R147, R393): its job ends with ENGINE_FAULT, the scrub begins, the
unit leaves service and its source is raised. A stop already decided loses to the fault only for a job still
running. -/
def State.unitFault (s : State) (c : UnitClass) (n detail : Nat) (b : BootIn := {}) : State :=
  let s1 : State := match s.jobOf c n with
    | some (it, st) =>
      if (s.cell c n).scrubbing then s
      else if st.phase == .running || (st.phase == .staged && st.stop.isSome) || st.phase == .scrub then
        s.setItem (it.setStep st.faulted)
      else s
    | none => s
  let k := s1.cell c n
  let s2 := (s1.setCell c n { k with uncorr := satSucc k.uncorr }).beginScrub c n true
  let src := srcUncorr c n
  ((s2.takeUnits src c [n]).raiseB b src n detail false).unitGone c n

/-- The kinds of fault that a class can show (R142 to R145, R247). -/
def faultFits (c : UnitClass) (k : UnitFault) : Bool :=
  match k with
  | .laneMismatch => c.isLane
  | .decode | .sequencer => !c.isLane
  | .ecc => true

/-- UNCORRECTED_FAULT (R145), of a unit in service or one taken out that still runs or scrubs. -/
def execUncorrectedFault (cls : UnitClass) (unit : Nat) (kind : UnitFault) (detail : BitVec 16) (s : State) :
    Host.Outcome State Fault Refusal :=
  if !unitOk cls unit then .fault .noSuchUnit
  else
    let k := s.cell cls unit
    .next (if s.up && faultFits cls kind && (k.inService || k.job.isSome || k.scrubbing) then s.unitFault cls unit detail.toNat else s)

/-- SAFE_POINT_TIMEOUT (R144): 4,096 cycles without a safe point are an uncorrected sequencer fault. -/
def execSafePointTimeout (cls : UnitClass) (unit : Nat) (s : State) : Host.Outcome State Fault Refusal :=
  if !unitOk cls unit then .fault .noSuchUnit
  else .next (
    if (s.cell cls unit).job.isSome && !(s.cell cls unit).scrubbing && !cls.isLane then s.unitFault cls unit 0 else s)

/-! ## The scrub -/

/-- A public job that was stopped posts when its scrub ends (R71, R120). -/
def State.scrubbedJob (s : State) (c : UnitClass) (n : Nat) : State :=
  match s.jobOf c n with
  | some (it, st) =>
    if st.phase == .scrub then
      let a := s.chargePublic it st
      a.1.endStep it a.2
    else s
  | none => s

/-- A unit through its reset: a scrub that still runs ends with it (R116, R147). -/
def State.unitReset (s : State) (c : UnitClass) (n : Nat) : State :=
  if (s.cell c n).scrubbing then
    let s1 := s.scrubbedJob c n
    s1.setCell c n (s1.cell c n).cleared
  else s

/-- SCRUB_END (R126, R146, R228, R247): operand memory, key register and counters are clear. -/
def execScrubEnd (cls : UnitClass) (unit : Nat) (s : State) : Host.Outcome State Fault Refusal :=
  if !unitOk cls unit then .fault .noSuchUnit
  else .next (
    if (s.cell cls unit).scrubbing then
      let s1 := s.scrubbedJob cls unit
      let k := s1.cell cls unit
      s1.setCell cls unit { k with job := none, scrubbing := false, dirty := 0, gf := 0, core := {} }
    else s)

/-- GF_CREDIT_RECOVERED (R192): within the present tick an engine's credit reaches 0, and it executes WAITWORK
(assumption 25). -/
def execGfCreditRecovered (unit : Nat) (s : State) : Host.Outcome State Fault Refusal :=
  if !unitOk .pip unit then .fault .noSuchUnit
  else
    let k := s.cell .pip unit
    .next (
      if s.up && k.job.isNone && !k.scrubbing && k.waiting.isNone && decide (k.credit < 0) && decide (-3200 ≤ k.credit) then
        s.setCell .pip unit { k with credit := 0, waiting := some s.now }
      else s)

end Sys2Proof.Machine
end

