-- ==== Sys2Proof/Machine/Lane.lean ====
section
/-! DEFINITION. Fragment services on the lanes (R86, R252, R253), the posting ports (R255) and the hold, release and
zeroing of AEAD decryption (R256). -/

namespace Sys2Proof.Machine

/-! ## Ends of services -/

/-- A service that is not the item's last can only end well, or by a failed unseal. -/
def serviceEnds (unseals : Bool) (st : Step) (last : Bool) (r : JobResult) : Bool :=
  jobEnds unseals st r && (last || r.status == .ok || r.status == .deviceFault)

/-- Put a lane item's continuation back into the ready lists at its acceptance position (R86, R255). -/
def State.continueItem (s : State) (it : Item) (st : Step) : State :=
  s.placeStep it { st with phase := .held, svc := st.svc + 1, res := none, reruns := 0 }

/-- The context record of 1 KiB that a lane seals at the end of a service before the last (R253); it takes the place of the
item's earlier one. A copy stays in an on-chip working context slot when one of the 1,024 is free. -/
def State.sealContext (s : State) (seq : Nat) (st : Step) : State :=
  if st.isService && !st.lastSvc then
    let rest := s.eng.slots.filter (fun c => c.seq != seq)
    let s1 := { s with
      hbm := { s.hbm with sealed := s.hbm.sealed.filter (fun x => !(x.seq == seq && x.len == 1024)) }
      eng := { s.eng with slots := if rest.length < 1024 then rest ++ [(⟨seq, st.num, s.hbm.sealCount⟩ : CtxSlot)]
                                   else rest } }
    s1.sealOne seq st.num 1024
  else s

/-- The service in progress on a lane: a bulk one, or the one service of a transaction-class item. -/
def State.endService (s : State) (c : UnitClass) (n : Nat) (it : Item) (st : Step) (r : JobResult) : State :=
  if st.secret then (s.sealContext it.seq st).stageJob c n it st r
  else if r.status = .deviceFault then
    ((s.setItem (it.setStep { st with phase := .scrub, res := some r, stop := some .overrun })).unsealFail).beginScrub
      c n true
  else if st.isService && !st.lastSvc then
    let a := (s.sealContext it.seq st).chargePublic it st
    (a.1.continueItem it a.2).beginScrub c n false
  else (s.endPublic it st r).beginScrub c n false

/-- FRAGMENT_SERVICE_END (R86, R247, R253): the lane has sealed the context and clears itself. -/
def execFragmentServiceEnd (cls : UnitClass) (unit : Nat) (res : JobResult) (s : State) :
    Host.Outcome State Fault Refusal :=
  if !unitOk cls unit then .fault .noSuchUnit
  else .next (match s.runningJob cls unit with
    | some (it, st) =>
      if st.isLane && serviceEnds (s.unseals it.seq st) st (!st.isService || st.lastSvc) res then s.endService cls unit it st res else s
    | none => s)

/-- LANE_READ_ALLOWANCE_EXPIRE (R37, R254): the service's reads are too late for its envelope. -/
def execLaneReadAllowanceExpire (cls : UnitClass) (unit : Nat) (s : State) : Host.Outcome State Fault Refusal :=
  if !unitOk cls unit then .fault .noSuchUnit
  else .next (if cls.isLane then s.readsLate cls unit else s)

/-! ## Port writes -/

/-- Write `n` output bytes that follow the first `done`, or zeros in their place. -/
def State.writePart (s : State) (it : Item) (st : Step) (done n : Nat) (zero : Bool) : State :=
  let r := (segTake (segDrop st.segs done) n).1
  if zero then s.writeZeros it.fn r else s.writeFree it.fn r

/-- End a service's item with its result now (R86, R120, R255). -/
def State.endBulk (s : State) (it : Item) (st : Step) (r : JobResult) : State :=
  s.endStep it { st with res := some r }

/-- Start a release or a zeroing of `n` bytes at the port in the present tick; nothing to write ends the item at
once (R256). -/
def State.startPort (s : State) (it : Item) (st : Step) (r : JobResult) (n : Nat) (zero : Bool) : State :=
  if n = 0 then s.endBulk it st r
  else s.setItem (it.setStep { st with phase := .port, res := some r, portLeft := n, portAt := some s.now, zeroing := zero })

/-- The final service of an AEAD decryption falls due (R256). -/
def State.aeadFinal (s : State) (it : Item) (st : Step) (r : JobResult) : State :=
  if r.status = .ok then
    if st.holds then s.startPort it st r st.outBytes false
    else
      let n := st.outBytes - st.written
      ((s.writePart it st st.written n false).portWrote st.group n).endBulk it { st with written := st.outBytes } r
  else if r.status = .okFalse then
    if st.holds then s.endBulk it st r
    else s.startPort it st { r with status := .invalidScrubbed } st.outBytes true
  else if st.holds then s.endBulk it st r
  else s.startPort it st r st.written true

/-- One bulk lane service falls due (R86, R120, R256). -/
def State.serviceDue (s : State) (it : Item) (st : Step) (r : JobResult) : State :=
  if st.lastSvc && isAeadDec st.d.opcode then s.aeadFinal it st r
  else if r.status = .ok then
    let n := st.portBytes
    let s1 := (s.writePart it st st.written n false).portWrote st.group n
    let x := { st with written := st.written + n }
    if st.lastSvc then s1.endBulk it x r else s1.continueItem it x
  else if st.streams then s.startPort it st r st.written true
  else s.endBulk it st r

/-- The result a step falls due with: what was staged, a failed unseal, or the overrun of R85. -/
def Step.dueRes (st : Step) (sealBad : Bool) : JobResult :=
  if st.phase == .staged then (if sealBad then faultRes .engineFault else st.res.getD {})
  else faultRes .engineFault

/-- What a secret step's due tick shows of its job: the Pulp lookup it made, unless the job was stopped (R98, R212), and an unseal
that failed in it (R207). -/
def State.resolveDue (s : State) (it : Item) (st : Step) (r : JobResult) : State × Step :=
  let s1 := if st.sealBad then s.unsealFail else s
  if st.phase == .staged && st.stop.isNone then s1.resolveJob it st r else (s1, { st with res := some r })

/-- Raise the overrun source of a step that was not staged at its last due tick (R85, R393). -/
def State.overrun (s : State) (st : Step) : State := s.raise (srcOverrun st.entry.cls st.unit) st.unit 0

/-- A step whose due tick has come, among bulk services or among the others. -/
def Step.isDue (st : Step) (now : Nat) (bulk : Bool) : Bool :=
  st.secret && (st.phase == .running || st.phase == .staged) && st.isService == bulk
    && (match st.due with
      | some d => decide (d ≤ now)
      | none => false)

/-- Put a due entry into due-tick order; entries of one tick keep acceptance order (R82). -/
def dueIns (x : Nat × Nat × Nat) : List (Nat × Nat × Nat) → List (Nat × Nat × Nat)
  | [] => [x]
  | y :: t => if x.1 < y.1 then x :: y :: t else y :: dueIns x t

/-- The due steps in the order of the delay list: due tick, item and step. -/
def State.dueList (s : State) (bulk : Bool) : List (Nat × Nat × Nat) :=
  s.orc.items.foldl (fun l it => (it.steps.filter (fun st => st.isDue s.now bulk)).foldl
    (fun m st => dueIns (st.due.getD 0, it.seq, st.num) m) l) []

/-- One due bulk service. -/
def State.fragmentDueOne (s : State) (bad : List Nat) (seq num : Nat) : State :=
  match s.item? seq with
  | none => s
  | some it =>
    match it.step? num with
    | none => s
    | some st =>
      if st.isDue s.now true then
        let late := st.phase == .running
        let lost := bad.contains seq && !late && st.stop.isNone
        let a := s.resolveDue it st (st.dueRes lost)
        let s1 := a.1.serviceDue it { a.2 with stop := if late then some .overrun else st.stop } (st.dueRes lost)
        let s2 := if late then s1.overrun st else s1
        if lost then s2.unsealFail else s2
      else s

/-- FRAGMENT_DUE (R69, R82, R86, R120, R256): every bulk lane service due by now. `unsealFail` names the items whose held
output fails its unseal (R207). -/
def execFragmentDue (unsealFail : List Nat) (s : State) : Host.Outcome State Fault Refusal :=
  .next ((s.dueList true).foldl (fun a x => (a.fragmentDueOne unsealFail x.2.1 x.2.2).postDecided) s)

/-! ## The posting port (R255, R256) -/

/-- The class and region of a lane group (R262). -/
def groupClass (g : Fin 8) : UnitClass := if g.val < 4 then .cip else .dig
def groupRegion (g : Fin 8) : Fin 4 := ⟨g.val % 4, Nat.mod_lt _ (by decide)⟩

/-- The step holds a reservation for its release or zeroing in a tick. -/
def Step.portOwn (st : Step) (now : Nat) : Bool :=
  st.secret && isAeadDec st.d.opcode && st.lastSvc && (match st.due with
    | some d => decide (d ≤ now) && decide (now < d + st.aeadTicks)
    | none => false)

/-- What is left of a group's allowance that secret services have not reserved. -/
def State.portRoom (s : State) (g : Fin 8) : Nat :=
  portCap (groupClass g) - s.portReserved (groupClass g) (groupRegion g) s.now - Tab.get 0 s.orc.portUsed g.val

/-- Bytes the port writes for a step in this tick. -/
def State.portTake (s : State) (g : Fin 8) (st : Step) : Nat :=
  if st.portOwn s.now then min st.portLeft 65536
  else if st.secret then min (min st.portLeft 65536) (s.portRoom g)
  else min st.portLeft (s.portRoom g)

/-- One step's writes in this tick, and the end of its item after the last. -/
def State.portOne (s : State) (g : Fin 8) (seq num : Nat) : State :=
  match s.item? seq with
  | none => s
  | some it =>
    match it.step? num with
    | none => s
    | some st =>
      let n := s.portTake g st
      if st.phase == .port && decide (0 < n) && (match st.portAt with
          | some t => decide (t ≤ s.now)
          | none => false) then
        let total := if st.zeroing && (st.res.getD {}).status != .invalidScrubbed then st.written else st.outBytes
        let s1 := s.writePart it st (total - st.portLeft) n st.zeroing
        let s2 := if st.portOwn s.now then s1 else s1.portWrote g.val n
        let x := { st with portLeft := st.portLeft - n, portAt := some (if st.secret then s.now + 1 else s.now) }
        if x.portLeft = 0 then
          let s3 := if x.zeroing then s2.setEng { s2.eng with curScrubbed := satSucc s2.eng.curScrubbed } else s2
          s3.endStep it { x with written := x.outBytes }
        else s2.setItem (it.setStep x)
      else s

/-- PORT_WRITE_TICK (R255, R256): a lane group's port issues what this tick allows, in acceptance order. -/
def execPortWriteTick (group : Fin 8) (s : State) : Host.Outcome State Fault Refusal :=
  .next (s.orc.items.foldl (fun a it => (it.steps.filter (fun st =>
      st.phase == .port && st.entry.cls == groupClass group && st.region == groupRegion group)).foldl
    (fun b st => b.portOne group it.seq st.num) a) s)

end Sys2Proof.Machine
end

