-- ==== Sys2Proof/Machine/PowerOps.lean ====
section
/-! DEFINITION. The power manager's calculations: tolerance and target (R425), idleness (R426), residence (R439) and LTR
(R429). State 0 stands for P0 and P1, which a device without a dispatched unit is in (R424). -/

namespace Sys2Proof.Machine

/-- The tolerance T in µs; 0xFFFF is unconstrained (R425). -/
def State.tol (s : State) : Nat :=
  s.fns.foldl (fun m e => if s.holdsQp e.1 then min m e.2.port.latTol.toNat else m) 0xFFFF

/-- Exit latencies in ns (R423). -/
def exitNs : Nat → Nat
  | 1 => 200
  | 2 => 8000
  | 3 => 60000
  | 4 => 25000000
  | _ => 0

/-- A state that the policy and the tolerance permit (R425). -/
def State.permits (s : State) (p : Nat) : Bool :=
  decide (p ≤ s.pwr.deepest) && (s.tol == 0xFFFF || decide (exitNs p ≤ 1000 * s.tol)) && (p != 4 || s.qm.qps.isEmpty)

/-- The target state (R425). -/
def State.target (s : State) : Nat := (List.range 5).foldl (fun a p => if s.permits p then p else a) 0

/-- Nothing keeps the device from being idle (R426). -/
def State.idle (s : State) : Bool :=
  s.orc.items.isEmpty && s.qm.qps.all (fun e => e.2.outstanding == 0) && s.fns.all (fun e => !e.2.mb.busy)
    && !s.mp.staging && s.mp.restart.isNone && !s.mp.rlBusy && !traceOn s.orc.traceCtrl && !s.rnd.alarmed

/-- At a boundary: a device that is not idle starts its idle time anew. -/
def State.noteIdle (s : State) : State :=
  if s.idle then s else { s with pwr := { s.pwr with idleSince := s.now } }

/-- The idle time of a state in µs (R426, R439). -/
def Pwr.idleTime (p : Pwr) (st : Nat) : Nat :=
  if st = 2 then p.idleP2 else if st = 3 then 1000 * p.idleP3 else 1000000 * p.idleP4

/-- Add µs to the residence of a state. -/
def Pwr.stay (p : Pwr) (st us : Nat) : Pwr :=
  if st = 2 then { p with resP2 := p.resP2 + us } else if st = 3 then { p with resP3 := p.resP3 + us }
  else if st = 4 then { p with resP4 := p.resP4 + us } else p

/-! ## Latency tolerance reporting (R429) -/

/-- The ns that an LTR latency register gives: 10 bits of value and a scale of 32 to its power. -/
def ltrNs (f : BitVec 16) : Nat := bitsOf f.toNat 9 0 * 32 ^ bitsOf f.toNat 12 10

/-- The latency field for a number of ns in the smallest scale that holds it, rounded down. -/
def ltrField : Nat → Nat → Nat → Nat
  | 0, sc, ns => 0x8000 + sc * 1024 + min ns 1023
  | k + 1, sc, ns => if ns < 1024 then 0x8000 + sc * 1024 + ns else ltrField k (sc + 1) (ns / 32)

/-- The field sent in a state: none is required while T is unconstrained. -/
def State.ltrValue (s : State) (st : Nat) : BitVec 16 :=
  if s.tol = 0xFFFF then 0
  else BitVec.ofNat 16 (ltrField 5 0 (min (1000 * s.tol - exitNs st) (min (ltrNs s.hif.ltrMax) (ltrNs s.hif.ltrMaxNo))))

/-- Send an LTR message for a state, if LTR is enabled. -/
def State.sendLtr (s : State) (st : Nat) : State :=
  let s1 := { s with pwr := { s.pwr with lastTol := s.tol } }
  if s.hif.ltrEnable && s.hif.linkUp then
    let v := s.ltrValue st
    { s1 with pwr := { s1.pwr with ltr := v } }.emit (.ltr v (v.getLsbD 15))
  else s1

/-- No unit is dispatched (R424). -/
def State.noneRuns (s : State) : Bool := s.eng.cells.all (fun e => e.2.job.isNone)

/-- The state that LTR last reported, 0 to 4. -/
def Pwr.reported (p : Pwr) : Nat := if p.state = 0 then flag p.p1 else p.state

/-- At a boundary: the device has gone from P0 to P1 or back since LTR was last sent (R424, R429; assumption 39). -/
def State.noteP1 (s : State) : State :=
  if s.pwr.state = 0 ∧ s.noneRuns ≠ s.pwr.p1 then
    ({ s with pwr := { s.pwr with p1 := s.noneRuns } }).sendLtr (flag s.noneRuns)
  else s

/-- A change of T (R427, R429): an LTR message, and an exit when the target is now shallower. -/
def State.noteTol (s : State) : State :=
  if s.tol = s.pwr.lastTol then s
  else
    let s1 := s.sendLtr s.pwr.reported
    if (s.pwr.state = 2 ∨ s.pwr.state = 3) ∧ s.target < s.pwr.state then
      { s1 with pwr := { s1.pwr with exiting := true } }
    else s1

end Sys2Proof.Machine
end

