-- ==== Sys2Proof/Machine/Due.lean ====
section
/-! DEFINITION. The tick: its boundary (R67, R81, R94, R105, R109, R114, R115, R192), the due tick (R82 to R85) and the
coalescing timer (R114). -/

namespace Sys2Proof.Machine

/-! ## The due tick -/

/-- One due step (R82, R85, R207): posted or passed on, extended, or faulted. -/
def State.dueOne (s : State) (bad : List Nat) (seq num : Nat) : State :=
  match s.item? seq with
  | none => s
  | some it =>
    match it.step? num with
    | none => s
    | some st =>
      if !st.isDue s.now false then s
      else if st.phase == .running && st.entry.ext && !st.extended then s.extend it st
      else
        let late := st.phase == .running
        let lost := bad.contains seq && !late && st.stop.isNone
        let a := s.resolveDue it st (st.dueRes lost)
        let s1 := a.1.endStep it { a.2 with stop := if late then some .overrun else st.stop }
        let s2 := if late then s1.overrun st else s1
        if lost then s2.unsealFail else s2

/-- DUE_TICK (R69, R82, R85): every secret step due by now, in delay-list order, and what waited for it. `unsealFail` names the items whose held
result fails its unseal (R207). -/
def execDueTick (unsealFail : List Nat) (s : State) : Host.Outcome State Fault Refusal :=
  .next ((s.dueList false).foldl (fun a x => (a.dueOne unsealFail x.2.1 x.2.2).postDecided) s)

/-! ## Coalescing (R113 to R115) -/

/-- Ask for a queue's message in this tick; messages on one vector are sent as one (R114). -/
def State.askMsg (s : State) (fn vec : Nat) : State :=
  if s.orc.msgs.contains (fn, vec) then s
  else { s with orc := { s.orc with msgs := s.orc.msgs ++ [(fn, vec)] } }

/-- The time trigger of a queue (R113, R114). -/
def Qp.timeDue (p : Qp) (now : Nat) : Bool :=
  p.valid && decide (0 < p.coalTime) && decide (0 < p.unsig) && decide (p.oldest + p.coalTime ≤ now)

/-- COALESCE_TIMER (R114). -/
def execCoalesceTimer (fn : Fin 1024) (q : Nat) (s : State) : Host.Outcome State Fault Refusal :=
  let p := s.qp fn.val q
  .next (if p.timeDue s.now then (s.setQp fn.val q { p with unsig := 0 }).askMsg fn.val p.vector else s)

/-- A change of a queue's interrupt settings takes effect (R115). -/
def State.applyInt (s : State) (fn q : Nat) : State :=
  let p := s.qp fn q
  match p.nextInt with
  | none => s
  | some (v, n, t) =>
    let x := { p with vector := v, coalCount := n, coalTime := t, nextInt := none }
    if v ≠ p.vector then
      let s1 := s.setQp fn q { x with unsig := 0 }
      if 0 < p.unsig then s1.askMsg fn p.vector else s1
    else if n ≤ p.unsig ∨ x.timeDue s.now then (s.setQp fn q { x with unsig := 0 }).askMsg fn v
    else s.setQp fn q x

/-! ## The tick boundary -/

/-- Post what still waits in the tick that ends, in order of acceptance (R69). -/
def State.flushPosts (s : State) : State :=
  s.orc.items.foldl (fun a it =>
    match a.item? it.seq with
    | none => a
    | some x =>
      match x.decided with
      | some v => if v.at_ < a.now then a.putOut x v else a
      | none => a) s

/-- Send the messages that fell due in the tick that ends, and those that a change of interrupt settings asks for at this
boundary: one on each vector (R114, R115, R122). -/
def State.flushMsgs (s : State) : State :=
  let l := s.orc.msgs
  l.foldl (fun a x => a.sendMsix x.1 x.2) { s with orc := { s.orc with msgs := [] } }

/-- A share over one tick: its rates, and a change that takes effect (R105, R109). -/
def Share.tick (h : Share) : Share :=
  let a := { h with commitAcc := min (h.commitAcc + Int.ofNat h.cfg.commit) (accCap h.cfg.commit h.cfg.burst)
                    ceilAcc := if h.cfg.ceiling = 4294967295 then 0
                      else min (h.ceilAcc + Int.ofNat h.cfg.ceiling) (accCap h.cfg.ceiling h.cfg.burst) }
  match h.next with
  | none => a
  | some c =>
    let cap := accCap c.ceiling c.burst
    { a with cfg := c, next := none, commitAcc := min a.commitAcc (accCap c.commit c.burst)
             ceilAcc := if c.ceiling = 4294967295 then 0 else if h.cfg.ceiling = 4294967295 then cap
               else min a.ceilAcc cap }

/-- A share over the ticks of a stay in P4, of which each adds its rates (R105, R428). -/
def Share.creditOver (h : Share) (us : Nat) : Share :=
  match us with
  | 0 => h
  | n + 1 =>
    let a := h.tick
    { a with commitAcc := min (a.commitAcc + Int.ofNat (n * a.cfg.commit)) (accCap a.cfg.commit a.cfg.burst)
             ceilAcc := if a.cfg.ceiling = 4294967295 then 0
               else min (a.ceilAcc + Int.ofNat (n * a.cfg.ceiling)) (accCap a.cfg.ceiling a.cfg.burst) }

/-- A Pip engine's activity credit over one tick of 1,600 ENG_CLK cycles: it gains 2 in each cycle and loses 5 in each
GF-active one (R192). A job's GF-active cycles are taken first (DESIGN CHOICE, assumption 25). -/
def Cell.earn (k : Cell) : Cell :=
  let a := min 1600 k.gf
  { k with credit := min (k.credit + 3200 - 5 * Int.ofNat a) 2097151, gf := k.gf - a }

/-- The changes of interrupt settings take effect (R115). -/
def State.applyInts (s : State) : State := s.qm.qps.foldl (fun a e => a.applyInt (e.1 / 4096) (e.1 % 4096)) s

/-- The other changes that take effect at a boundary (R94, R109, R276, R405, R430). -/
def State.applyChanges (s1 : State) : State :=
  let s2 := { s1 with
    fns := tabMap {} (fun r => { r with share := r.share.tick }) s1.fns
    orc := { s1.orc with traceCtrl := s1.orc.traceNext.getD s1.orc.traceCtrl, traceNext := none, portUsed := [] }
    eng := { s1.eng with legacy := s1.eng.legacyNext.getD s1.eng.legacy, legacyNext := none
                         cells := tabMap {} Cell.earn s1.eng.cells } }
  s2.applyPolicies

/-- A second of good main rails passes (R411). -/
def State.countSecond (s : State) : State :=
  if s.pwr.main && (s.rnd.us - s.log.upAt) % 1000000 == 0 then { s with log := { s.log with opSec := s.log.opSec + 1 } } else s

/-- TICK_BOUNDARY (R81, R89): one µs of the Orchard tick, or with the main domain down of Rind's clock alone. -/
def execTickBoundary (s : State) : Host.Outcome State Fault Refusal :=
  let s1 := { s with rnd := { s.rnd with us := s.rnd.us + 1 } }.countSecond
  .next (
    if s.up && s.pwr.state != 4 then
      let s2 := s1.flushPosts
      ({ s2 with orc := { s2.orc with tick := s2.orc.tick + 1 } }).applyInts.flushMsgs.noteIdle.applyChanges.postDecided.entropyRelease.noteTol.noteP1
    else s1)

end Sys2Proof.Machine
end

