-- ==== Sys2Proof/Machine/Region.lean ====
section
/-! DEFINITION. Regions and what stands in them: loss and drain (R90, R119), the reload and reset of R348 to their ends
(R149, R150, R229, R378, R478), control-store patrol (R143, R149), and the reseeding of the Zest and blinding
generators (R134, R135, R225). -/

namespace Sys2Proof.Machine

/-! ## Loss -/

/-- No store of a region is written or under test. -/
def State.storesQuiet (s : State) (r : Nat) : State :=
  (regionStores r).foldl (fun a k => a.setCluster k { a.cluster k with loading := false, selfTest := false }) s

/-- End a reload of a region that fails (R348). -/
def State.failReload (s : State) (r : Nat) : State :=
  ((s.storesQuiet r).setRegion r { s.region r with reloading := false, failed := true }).endReload 5 .deviceFault

/-- A reload or reset of a region is in progress. -/
def State.reloads (s : State) (r : Nat) : Bool := s.mp.rlBusy && s.mp.rlRegion.val == r

/-- A fault source holds a region out of service (R395). -/
def State.sourceHolds (s : State) (r : Nat) : Bool :=
  s.flt.srcs.any (fun e => e.2.regionOut && srcRegion e.1 == r)

/-- Put a region back into service. -/
def State.regionIn (s : State) (r : Nat) : State :=
  s.setRegion r { s.region r with inService := true, draining := false, reloading := false, quarantine := false, failed := false }

/-- A region reset ends (R348 step 5): the region returns unless a set alarm bit, a fault source or the want of any
unit holds it (R378, R395). -/
def State.finishReset (s : State) (r : Nat) : State :=
  let s0 := s.keepSram (fun a w => areaKeptRegion a || areaRegion a w != r)
  let s1 := classAll.foldl (fun a c => (List.range (classPerRegion c)).foldl (fun b k =>
    b.setCell c (classPerRegion c * r + k) (b.cell c (classPerRegion c * r + k)).cleared) a) s0
  if s1.rindHolds r || s1.sourceHolds r || s1.regionDead r then s1.failReload r
  else (s1.regionIn r).endReload 4 .ok

/-- The drain of a region is over, by its end or by its loss: a reset ends, a reload goes on (R348). -/
def State.drained (s : State) (r : Nat) : State :=
  if s.reloads r && s.mp.rlReset && s.mp.rlStep != 4 then s.finishReset r else s

/-- A region is lost (R119): also one whose reload is past its drain, which then fails (R348). -/
def State.loseRegion (s : State) (r : Nat) : State :=
  if s.reloads r && decide (2 ≤ s.mp.rlStep) then s.failReload r
  else ((s.regionLoss r).rehome).drained r

/-- REGION_LOST (R119, R393, R394). -/
def execRegionLost (region : Fin 4) (s : State) : Host.Outcome State Fault Refusal :=
  let r := region.val
  .next (
    if s.up && ((s.region r).inService || (s.reloads r && decide (2 ≤ s.mp.rlStep))) then
      ((s.loseRegion r).raise (srcRegionOff r 42) 0xFF 0).rehome
    else s)

/-! ## Drain -/

/-- A punnet whose family only the draining regions serve still has a step to dispatch (R90). -/
def State.boundTo (s : State) (r : Nat) (it : Item) : Bool :=
  it.punnet && it.family == some (s.region r).family && it.steps.any (fun st => it.serves st && st.waiting)
    && (s.candidates it).any (fun x => x.val == r)

/-- No undispatched step stands on a region. -/
def State.listsEmpty (s : State) (r : Nat) : Bool :=
  !(s.orc.items.any (fun it => it.steps.any (fun st => it.serves st && st.phase == .placed && st.region.val == r)))

/-- No unit of a region runs or scrubs. -/
def State.unitsIdle (s : State) (r : Nat) : Bool :=
  classAll.all (fun c => (List.range (classPerRegion c)).all (fun k =>
    let x := s.cell c (classPerRegion c * r + k)
    x.job.isNone && !x.scrubbing))

/-- The drain of a region may end (R90). -/
def State.drainDone (s : State) (r : Nat) : Bool :=
  (s.region r).inService && (s.region r).draining && s.listsEmpty r && s.unitsIdle r
    && !(s.orc.items.any (s.boundTo r))

/-- A drained region leaves service; a reload goes on to its load (R348 step 2), or fails where a quarantine holds the region
(R389). -/
def State.leaveService (s : State) (r : Nat) : State :=
  let mine := s.reloads r && s.mp.rlStep == 1
  let s1 := classAll.foldl (fun a c => (List.range (classPerRegion c)).foldl (fun b k =>
    b.setCell c (classPerRegion c * r + k) { b.cell c (classPerRegion c * r + k) with waiting := none }) a) s
  let s2 := s1.setRegion r { s1.region r with
    inService := false, draining := false, lastOut := s.now, reloading := mine && !s.mp.rlReset }
  if !mine || s.mp.rlReset then s2
  else if (s2.region r).quarantine || s2.sourceHolds r then s2.failReload r
  else s2.beginLoad r

/-- REGION_DRAIN_END (R90, R348). -/
def execRegionDrainEnd (region : Fin 4) (s : State) : Host.Outcome State Fault Refusal :=
  .next (if s.drainDone region.val then (s.leaveService region.val).drained region.val else s)

/-- DRAIN_LIMIT_EXPIRE (R119, R348): the limit passes first, and the region is reset. -/
def execDrainLimitExpire (region : Fin 4) (s : State) : Host.Outcome State Fault Refusal :=
  let r := region.val
  .next (
    if (s.region r).draining && s.reloads r && s.mp.rlStep == 1 && decide (s.mp.rlStart + 1000 * s.mp.rlLimit ≤ s.now) then
      s.loseRegion r
    else s)

/-! ## Switch and test -/

/-- The load and switch of one cluster, or of the Medlar engines of a region (R149, R150). -/
def Cluster.switched (k : Cluster) (fam : Nat) (ver : BitVec 16) : Cluster :=
  { k with activeB := !k.activeB, altValid := true, loading := false, selfTest := true
           family := fam, version := ver, altFamily := k.family, altVersion := k.version }

/-- The switch of a region to a family and version. -/
def State.switchRegion (s : State) (r fam : Nat) (ver : BitVec 16) : State :=
  let s1 := (regionStores r).foldl (fun a k => a.setCluster k ((a.cluster k).switched fam ver)) s
  s1.setRegion r { s1.region r with family := fam, version := ver, choice := some fam }

/-- A reload switches its banks, to the images it loaded or to those that a switch back finds, and the known-answer tests begin
(step 4 of R348; R150, R229, R478). -/
def State.toTests (s : State) (r : Nat) : State :=
  let k := s.cluster (4 * r)
  let s1 := if s.mp.rlBack && k.altValid then s.switchRegion r k.altFamily k.altVersion
    else s.switchRegion r ((s.region r).choice.getD (highestFam s.activeBank.families)) s.activeBank.bundle
  { s1 with mp := { s1.mp with rlStep := 3 } }

/-- A reload of a region, its drain over, is at a step. -/
def State.reloadAt (s : State) (r n : Nat) : Bool := s.mp.running && s.reloads r && !s.mp.rlReset && s.mp.rlStep == n

/-- Engines that fail their tests after a switch are put out of service (R150). -/
def State.outAdmin (s : State) (l : List (UnitClass × Nat)) : State :=
  l.foldl (fun a x => a.setCell x.1 x.2 { a.cell x.1 x.2 with inService := false, outAdmin := true }) s

/-- No engine of a region is in service. -/
def State.enginesOut (s : State) (r : Nat) : Bool :=
  [UnitClass.pip, UnitClass.med].all (fun c => (List.range (classPerRegion c)).all (fun k =>
    !(s.cell c (classPerRegion c * r + k)).inService))

/-- The tests of a switch end (steps 4 and 5 of R348). -/
def State.testsEnd (s : State) (r : Nat) (fails : List (UnitClass × Nat)) : State :=
  let mine := fails.filter (fun x => !x.1.isLane && unitRegion x.1 x.2 == r)
  let s1 := (s.storesQuiet r).outAdmin mine
  let s2 := mine.foldl (fun a x => a.raise (srcRegionOff r 39) x.2 0) s1
  if s2.enginesOut r || (s2.region r).quarantine || s2.sourceHolds r then s2.failReload r
  else (s2.regionIn r).endReload 4 .ok

/-- REGION_RELOAD_DONE (R149, R150, R348, R478): the known-answer tests of a reload end, and where its load still goes on the
digests and the switch before them. A switch back uses the images that stand in the inactive banks. A firmware restart carries the
region on from here (R349). -/
def execRegionReloadDone (region : Fin 4) (digestOk : Bool) (katFail : List (UnitClass × Nat)) (s : State) :
    Host.Outcome State Fault Refusal :=
  let r := region.val
  .next (
    if s.reloadAt r 3 then s.testsEnd r katFail
    else if !s.reloadAt r 2 then s
    else if (s.cluster (4 * r)).loading && !digestOk then (s.failReload r).raise (srcRegionOff r 39) 0xFF 0
    else (s.toTests r).testsEnd r katFail)

/-! ## Control stores (R143, R149, R226, R227) -/

/-- Count corrected words of a cluster, or of the Medlar engines of a region at 16 + r, and raise their source (R143, R393). -/
def State.countFixed (s : State) (k n : Nat) : State :=
  if n = 0 then s
  else if k < 16 then
    (s.setCluster k { s.cluster k with corr := satAdd (s.cluster k).corr n }).raise (srcRegionOff (k / 4) (4 + k % 4)) 0xFF 0
  else (s.setEng { s.eng with medCorr := satAdd s.eng.medCorr n }).raise (srcRegionOff (k - 16) 28) 0xFF 0

/-- What the code makes of the bits flipped in a word: being linear, it sees them as a word of their own. -/
def flipOuts (medlar : Bool) (f : BitVec 288) : List EccOut := if medlar then medFetch (f.setWidth 128) else wordFetch f

/-- The flips of a store after upsets at addresses that it has. -/
def Cluster.upset (k : Cluster) (l : List (Nat × BitVec 288)) : Tab (BitVec 288) :=
  (l.filter (fun x => decide (x.1 < 16384))).foldl (fun t x => Tab.put 0 t x.1 (Tab.get 0 t x.1 ^^^ x.2)) k.flips

/-- The units that an uncorrected word of a store takes out: its cluster, or the Medlar engine that holds it (R393). -/
def storeUnits (k a : Nat) : UnitClass × List Nat :=
  if k < 16 then (.pip, blockUnits (.pip, k)) else (.med, [8 * (k - 16) + a / 2048])

/-- CONTROL_STORE_PATROL (R143, R149, R229): a pass over both banks of a cluster, or of the Medlar engines of a region, finds the
bits that `upsets` flipped since the last and those still flipped. Words put right are counted; one that cannot be corrected stays
and takes its units out of service (R393). -/
def execControlStorePatrol (store : Fin 20) (upsets : List (Nat × BitVec 288)) (s : State) :
    Host.Outcome State Fault Refusal :=
  let k := store.val
  let r := if k < 16 then k / 4 else k - 16
  .next (
    if !s.up || !s.mp.katDone then s
    else
      let flips := (s.cluster k).upset upsets
      let outs := fun (e : Nat × BitVec 288) => flipOuts (decide (16 ≤ k)) e.2
      let left := flips.filter (fun e => (outs e).contains .bad)
      let s1 := (s.setCluster k { s.cluster k with flips := left }).countFixed k
        ((flips.flatMap outs).filter (· == .corrected)).length
      match left with
      | [] => s1
      | e :: _ =>
        let src := srcRegionOff r 38
        let s2 := left.foldl (fun a x => a.takeUnits src (storeUnits k x.1).1 (storeUnits k x.1).2) s1
        ((s2.raise src ((storeUnits k e.1).2.headD 0xFF) 0).checkDead r).rehome)

/-! ## Generators (R134, R135, R225) -/

/-- The key of a Zest or a blinding generator, and its region and limit source. -/
def genOf (medlar : Bool) (n : Nat) : Nat := if medlar then 16 + n else n
def genSrc (medlar : Bool) (n : Nat) : Nat := srcRegionOff (n / 4) (if medlar then 30 else 16 + n % 4)

/-- A successful reseed of a generator; its limit ends with the last of its source (R134, R401). -/
def State.reseedGen (s : State) (medlar : Bool) (n : Nat) : State :=
  let k := genOf medlar n
  let g := s.gen k
  let s1 := s.seedGen k g.seeded
  let still := medlar && (List.range 4).any (fun i => (s1.gen (16 + 4 * (n / 4) + i)).pastLimit)
  (if g.pastLimit && !still then s1.presentEnds (genSrc medlar n) else s1)

/-- Blocks that a generator has produced since its last reseed: 100 a µs while it is clocked, in P0 and P1 (R133). -/
def State.blocksOf (s : State) (g : Gen) : Nat := if 2 ≤ s.pwr.state then g.blocks else g.blocks + (s.now - g.since) * 100

/-- The generators as their clocks stop, or start again (R133). -/
def State.clockGens (s : State) : State :=
  s.setEng { s.eng with gens := tabMap {} (fun g => { g with blocks := s.blocksOf g, since := s.now }) s.eng.gens }

/-- The DRBG serves requests (R322). -/
def State.drbgServes (s : State) : Bool := s.rng.ready && !s.rng.drbgFailed && !s.rng.demand

/-- Every seeded generator reseeds, or keeps its request pending (R134: on exit from P2 and deeper). -/
def State.reseedExit (s : State) : State :=
  (List.range 32).foldl (fun a k =>
    let g := a.gen k
    if !g.seeded then a
    else if a.drbgServes then a.reseedGen (decide (16 ≤ k)) (k % 16)
    else a.setGen k { g with pending := true, failing := true }) s

/-- ZEST_RESEED (R134, R225): 1 ms after its last reseed a generator requests the next. An unserved request stays
pending. -/
def execZestReseed (medlar : Bool) (gen : Fin 16) (s : State) : Host.Outcome State Fault Refusal :=
  let k := genOf medlar gen.val
  let g := s.gen k
  .next (
    if !s.up || !g.seeded || decide (s.now < g.last + 1000) then s
    else if s.drbgServes then s.reseedGen medlar gen.val
    else s.setGen k { g with pending := true, failing := true })

/-- ZEST_LIMIT (R89, R134, R135): 10 ms without a reseed. The generator still serves what already runs. -/
def execZestLimit (medlar : Bool) (gen : Fin 16) (s : State) : Host.Outcome State Fault Refusal :=
  let k := genOf medlar gen.val
  let g := s.gen k
  .next (
    if !s.up || !g.seeded || g.pastLimit || decide (s.now < g.last + 10000) then s
    else
      let s1 := s.setGen k { g with pastLimit := true, hits := satSucc g.hits }
      let s2 := if medlar then s1.setEng { s1.eng with medHits := satSucc s1.eng.medHits } else s1
      (s2.raiseB {} (genSrc medlar gen.val) 0xFF 0 true).holdForEntropy)

end Sys2Proof.Machine
end

