-- ==== Sys2Proof/Machine/PowerUp.lean ====
section
/-! DEFINITION. Supplies and the reset pin (R433 to R435, R437, R463, R464, R471): power-on, loss, PERST_N, brown-out,
and the main and standby supplies (R372). -/

namespace Sys2Proof.Machine

/-! ## The always-on domain -/

/-- The supply code of R384 while the main rails are off: 1 standby, 2 backup cell. -/
def State.offSupply (s : State) : Nat := if s.pwr.standby then 1 else 2

/-- Keep the counted events of some groups; the others are held without events (R372). -/
def Rnd.dropEvents (r : Rnd) (keep : Nat → Bool) : Rnd :=
  { r with events := r.events.filter (fun e => keep (e.1 / 8)) }

/-- VAON_POWER_ON (R372, R381, R435 step 1): the always-on domain starts, and Rind with its stored configuration, or at
LOG before the first boot has loaded one. -/
def execVaonPowerOn (s : State) : Host.Outcome State Fault Refusal :=
  .next (if s.pwr.vaon then s
    else { s with pwr := { s.pwr with vaon := true }
                  rnd := { s.rnd with supply := s.offSupply, lostAt := s.rnd.us, configValid := s.rnd.stored } })

/-- VAON_LOSS (R309, R434, R445): everything but the non-volatile memories is lost, the MWK with it. -/
def execVaonLoss (s : State) : Host.Outcome State Fault Refusal :=
  .next (if !s.pwr.vaon then s
    else
      let s1 := s.coldClear
      { s1 with
        pwr := { s1.pwr with vaon := false, main := false, perst := true, held := false, shutFlag := false, xtal := false }
        rnd := { cfg := s1.rnd.cfg, tlow := s1.rnd.tlow, thigh := s1.rnd.thigh, tampPol := s1.rnd.tampPol
                 stored := s1.rnd.stored, supply := 2, us := s1.rnd.us, lostAt := s1.rnd.us }
        nv := { s1.nv with mwk := none }
        lc := { s1.lc with token := none, retained := 0 }
        sb := {} })

/-- XTAL_STABLE (R433). -/
def execXtalStable (s : State) : Host.Outcome State Fault Refusal :=
  .next (if s.pwr.vaon then { s with pwr := { s.pwr with xtal := true } } else s)

/-- XTAL_STOP (R433): AON_CLK falls back to the RC oscillator. -/
def execXtalStop (s : State) : Host.Outcome State Fault Refusal :=
  .next { s with pwr := { s.pwr with xtal := false } }

/-! ## The main rails -/

/-- A power-up of the main rails counts (R411); the token buffer and the retained nonce start empty. -/
def State.countPowerUp (s : State) : State :=
  { s with
    pwr := { s.pwr with main := true }
    rnd := { s.rnd with supply := 0, lostAt := s.rnd.us }
    log := { s.log with pcycle := (s.log.pcycle + 1) % 2 ^ 24, opSec := s.log.opStored + 60
                        opStored := s.log.opStored + 60, upAt := s.rnd.us } }

/-- The main domain loses its power (R359, R361, R372). -/
def State.mainLost (s : State) (keep : Nat → Bool) : State :=
  let s1 := s.coldClear
  { s1 with
    pwr := { s1.pwr with main := false }
    rnd := { s1.rnd.dropEvents keep with supply := s1.offSupply, lostAt := s1.rnd.us }
    lc := { s1.lc with token := none, retained := 0 } }

/-- A group that is active on the backup cell: all but the core and I/O glitch detectors and the clock monitor (R371). -/
def backupGroup (g : Nat) : Bool := !(within g 12 17) && g != 24

/-- MAIN_RAILS_GOOD (R411, R463). -/
def execMainRailsGood (s : State) : Host.Outcome State Fault Refusal :=
  .next (if s.pwr.vaon && !s.pwr.main && s.pwr.perst then s.countPowerUp else s)

/-- MAIN_RAILS_OFF (R372, R463): after PERST_N is asserted. -/
def execMainRailsOff (s : State) : Host.Outcome State Fault Refusal :=
  .next (if s.pwr.main && s.pwr.perst then s.mainLost backupGroup else s)

/-- STANDBY_SUPPLY_LOSS (R372). -/
def execStandbySupplyLoss (s : State) : Host.Outcome State Fault Refusal :=
  .next { s with pwr := { s.pwr with standby := false }
                 rnd := { s.rnd with supply := if s.rnd.supply = 0 then 0 else 2 } }

/-- STANDBY_SUPPLY_RETURN (R372). -/
def execStandbySupplyReturn (s : State) : Host.Outcome State Fault Refusal :=
  .next { s with pwr := { s.pwr with standby := true }
                 rnd := { s.rnd with supply := if s.rnd.supply = 0 then 0 else 1 } }

/-! ## PERST_N -/

/-- PERST_N_ASSERT (R116, R117, R434): a cold reset in any state. -/
def execPerstNAssert (s : State) : Host.Outcome State Fault Refusal :=
  .next (if s.pwr.perst then s
    else
      let s1 := s.coldClear
      { s1 with pwr := { s1.pwr with perst := true }
                rnd := { s1.rnd with supply := if s1.pwr.main then 0 else s1.rnd.supply } })

/-- The five sensors are read; an empty list leaves them as they stand. -/
def Pwr.sampled (p : Pwr) (l : List Byte) : Pwr := if l.length = 5 then { p with temps := l } else p

/-- Every sensor reads 100 °C or below (R437). -/
def Pwr.cool (p : Pwr) : Bool := p.temps.all (fun t => decide (t.toInt ≤ 100))

/-- An instruction that holds the main domain in reset is loaded (R471). -/
def State.extestLoaded (s : State) : Bool := s.tap.ir == 0x00 || s.tap.ir == 0x03 || s.tap.ir == 0x04

/-- PERST_N is released: the sensors and BOOT_SEL are sampled, and a hold ends that is cool or without its instruction (R344, R437,
R471). -/
def State.released (s : State) (b : BootIn) : State :=
  let p := s.pwr.sampled b.temps
  { s with pwr := { p with perst := false, held := p.held && !p.cool, extest := s.extestLoaded, bootSel := b.bootSel } }

/-- PERST_N_RELEASE (R360, R435, R437, R471): start-up, unless a thermal or EXTEST hold stays in force. -/
def execPerstNRelease (b : BootIn) (s : State) : Host.Outcome State Fault Refusal :=
  .next (
    if !s.pwr.vaon || !s.pwr.main || !s.pwr.perst then s
    else
      let s1 := s.released b
      if s1.up then s1.boot b 0 else s1)

/-! ## Brown-out (R464) -/

/-- BROWN_OUT: the main domain is held as at cold reset. -/
def execBrownOut (s : State) : Host.Outcome State Fault Refusal :=
  .next (if s.pwr.main && !s.pwr.perst then s.mainLost backupGroup else s)

/-- BROWN_OUT_RECOVER: start-up from step 4 of R435, counted as a power-up. -/
def execBrownOutRecover (b : BootIn) (s : State) : Host.Outcome State Fault Refusal :=
  .next (
    if !s.pwr.vaon || s.pwr.main || s.pwr.perst then s
    else
      let s1 := s.countPowerUp
      if s1.up then s1.boot b 0 else s1)

end Sys2Proof.Machine
end

