-- ==== Sys2Proof/Machine/Link.lean ====
section
/-! DEFINITION. The link and configuration space (R20, R23, R36 to R39, R116 to R118), failed DMA reads (R37, R50) and
the host port's loopback (R41). -/

namespace Sys2Proof.Machine

/-! ## The link (R39, R42) -/

/-- The kind of a LINK record (R413; assumption 19): 1 link-down, 2 surprise removal, 3 hot reset, 4 an IDE stream. -/
def linkCode : LinkLoss → Nat
  | .dlDown => 1 | .surprise => 2 | .hotReset => 3

/-- LINK_DOWN (R39): a link-down reset, recorded and raised (R392, R413). -/
def execLinkDown (how : LinkLoss) (s : State) : Host.Outcome State Fault Refusal :=
  .next (if s.up && s.hif.linkUp then (s.linkDrop.logWord 0x070 (linkCode how) 0).raise 2 0xFF 0 else s)

/-- LINK_RETRAIN (R20, R39, R41): the link comes up, or changes its rate or width. FLIT mode is always in use at
64 GT/s. -/
def execLinkRetrain (rate : BitVec 4) (width : BitVec 5) (flit : Bool) (s : State) :
    Host.Outcome State Fault Refusal :=
  .next (
    if s.up && trains rate width then
      ({ s with hif := { s.hif with linkUp := true, rate := rate, width := width, flit := flit || rate == 4
                                    cfgReady := true, lpbkPartner := false, linkBroken := false } }).refresh
    else s)

/-! ## Configuration space (R23, R36, R37) -/

/-- MEMORY_SPACE_ENABLE_WRITE (R37). -/
def execMemorySpaceEnableWrite (fn : Fin 1024) (v : Bool) (s : State) : Host.Outcome State Fault Refusal :=
  .next (if s.cfgReaches fn.val then s.setPort fn.val { (s.fn fn.val).port with mse := v } else s)

/-- BUS_MASTER_ENABLE_WRITE (R37, R49). -/
def execBusMasterEnableWrite (fn : Fin 1024) (v : Bool) (s : State) : Host.Outcome State Fault Refusal :=
  .next (if s.cfgReaches fn.val then s.setPort fn.val { (s.fn fn.val).port with bme := v } else s)

/-- VF_ENABLE_SET (R36, R367): the VFs exist and follow the conditions of READY. -/
def execVfEnableSet (s : State) : Host.Outcome State Fault Refusal :=
  .next (
    if s.reaches 0 && !s.scrapped then ({ s with hif := { s.hif with
      vfEnable := true, vfSetAt := if s.hif.vfEnable then s.hif.vfSetAt else some s.now } }).refresh
    else s)

/-- VF_ENABLE_CLEAR (R37, R116): every VF is reset as by FLR. -/
def execVfEnableClear (s : State) : Host.Outcome State Fault Refusal :=
  .next (if s.reaches 0 && s.hif.vfEnable then s.vfsOff else s)

/-- TotalVFs and InitialVFs: 0 without ARI Forwarding (R20, R22). -/
def Hif.totalVfs (h : Hif) : Nat := if h.ari then 1023 else 0

/-- NUMVFS_WRITE (R22, R23, R367): what does not fit the bus range reads back as the largest value that does. -/
def execNumvfsWrite (n : BitVec 16) (s : State) : Host.Outcome State Fault Refusal :=
  .next (
    if s.reaches 0 && !s.hif.vfEnable && !s.scrapped then
      { s with hif := { s.hif with numVfs := min n.toNat (min s.hif.totalVfs (256 * s.hif.buses - 1)) } }
    else s)

/-- FLR_INITIATE (R91, R117, R118 steps 1 and 2): READY falls, items leave and jobs are asked to stop. An FLR of the PF
clears VF Enable. -/
def execFlrInitiate (fn : Fin 1024) (s : State) : Host.Outcome State Fault Refusal :=
  .next (
    if s.cfgReaches fn.val then
      let s1 := if fn.val = 0 && s.hif.vfEnable then s.vfsOff else s
      let s2 := s1.fnStart fn.val
      (s2.setPort fn.val { (s2.fn fn.val).port with flrBusy := true }).refreshFn fn.val
    else s)

/-- FLR_DONE (R118 steps 3 to 5). -/
def execFlrDone (fn : Fin 1024) (s : State) : Host.Outcome State Fault Refusal :=
  .next (
    if s.up && (s.fn fn.val).port.flrBusy then (s.fnFinish fn.val).refreshFn fn.val else s)

/-! ## IDE (R37, R38) -/

/-- The stream is Secure: 0 to 7 are the selective streams, 8 the link stream. -/
def State.streamSecure (s : State) (stream : Fin 9) : Bool :=
  if stream.val = 8 then s.hif.linkSecure else s.hif.selSecure.getLsbD stream.val

/-- Move a stream out of the Secure state; it needs fresh keys (R38), and functions that no other stream covers lose IDE_SECURE (R30). -/
def State.streamOff (s : State) (stream : Fin 9) (fns : List (Fin 1024)) : State :=
  let s0 := { s with hif := { s.hif with keyed := s.hif.keyed &&& ~~~(BitVec.ofNat 9 (2 ^ stream.val)) } }
  let s1 := if stream.val = 8 then { s0 with hif := { s0.hif with linkSecure := false } }
    else { s0 with hif := { s0.hif with selSecure := s0.hif.selSecure &&& ~~~(BitVec.ofNat 8 (2 ^ stream.val)) } }
  fns.foldl (fun a f => a.setPort f.val { (a.fn f.val).port with ideSecure := false }) s1

/-- A link-down of some functions (R38, R39): items and queue pairs go, and configuration space returns to its reset values. With
the PF go VF Enable and NumVFs, and with them every VF. -/
def State.dropFns (s : State) (l : List Nat) : State :=
  let s1 := (if l.contains 0 then s.fnList else l).foldl (fun a f => (a.fnStart f).fnFinish f) s
  if l.contains 0 then { s1 with hif := s1.hif.cfgReset } else s1

/-- What comes on a failed stream is dropped until fresh keys are set going (R38). -/
def State.breakStream (s : State) (stream : Fin 9) (fns : List (Fin 1024)) : State :=
  if stream.val = 8 then { s with hif := { s.hif with linkBroken := true } }
  else fns.foldl (fun a f => a.setPort f.val { (a.fn f.val).port with ideBroken := true }) s

/-- IDE_INTEGRITY_FAIL (R38): the stream goes Insecure and what comes on it is dropped, and its functions are handled as at
link-down. The link stream covers every function. -/
def execIdeIntegrityFail (stream : Fin 9) (fns : List (Fin 1024)) (s : State) : Host.Outcome State Fault Refusal :=
  .next (
    if s.up && s.streamSecure stream then
      let s1 := (s.streamOff stream fns).breakStream stream fns
      let s2 := s1.dropFns (if stream.val = 8 then s1.fnList else fns.map (·.val))
      (s2.refresh.logWord 0x070 (4 + stream.val * 256) 0).raise 1 0xFF stream.val
    else s)

/-- TLP_WITHOUT_IDE (R37). -/
def execTlpWithoutIde (fn : Fin 1024) (write : Bool) (s : State) : Host.Outcome State Fault Refusal :=
  .next (
    if s.reaches fn.val && s.hif.ideRequire then
      let s1 := s.emit (.aer fn.val false)
      if write then s1 else s1.emit .unsupported
    else s)

/-! ## MSI-X (R37) -/

/-- Unmask a vector and send what its PBA bit holds. -/
def State.unmask (s : State) (fn vec : Nat) : State :=
  let r := s.fn fn
  let e := r.vec vec
  let x := { e with mask := false }
  if e.pba && !r.msixMask then
    (s.setFn fn { r with msix := Tab.put {} r.msix vec { x with pba := false } }).sendMsix fn vec
  else s.setFn fn { r with msix := Tab.put {} r.msix vec x }

/-- MSIX_UNMASK (R37). -/
def execMsixUnmask (fn : Fin 1024) (vec : Nat) (s : State) : Host.Outcome State Fault Refusal :=
  .next (s.atBar fn.val fun s =>
    if !s.scrapped && decide (vec < (s.fn fn.val).ten.msix) then s.unmask fn.val vec else s)

/-! ## DMA reads that fail (R20, R37, R50) -/

/-- What every failed read leaves: the event, the AER entry and the source (R37, R392). -/
def State.readFailed (s : State) (fn : Nat) : State :=
  ((s.fnEvent fn evReadFail).emit (.aer fn true)).raise 3 (fn % 256) 0

def readFailRes : JobResult := { status := .badDescriptor, reason := .hostReadFail }

/-- A failed fragment-list read ends the oldest fetched item before dispatch. -/
def State.listReadFailed (s : State) (fn q : Nat) : State :=
  let p := s.qp fn q
  match p.fetched with
  | [] => s
  | f :: rest =>
    match f.entries with
    | [] => s
    | e :: _ =>
      ((s.setQp fn q { p with fetched := rest }).refuse (s.newItem fn q e) .badDescriptor .hostReadFail 0).readFailed fn

/-- A failed read of data ends the step that runs: a secret one is staged, a public one ends as its unit stops. -/
def State.dataReadFailed (s : State) (seq num : Nat) : State :=
  match s.item? seq with
  | none => s
  | some it =>
    match it.step? num with
    | none => s
    | some st =>
      if st.phase == .running && st.stop.isNone && st.readsHost then
        let c := st.entry.cls
        let s1 :=
          if st.secret then s.setItem (it.setStep { st with phase := .staged, res := some readFailRes })
          else
            let a := s.chargePublic it st
            a.1.endStep it { a.2 with res := some readFailRes }
        (s1.beginScrub c st.unit true).readFailed it.fn
      else s

/-- A DMA read fails. A mailbox command carries the outcome of its own read. -/
def State.dmaFail (s : State) (rd : DmaRead) : State :=
  if !s.up then s
  else match rd with
  | .descriptor fn q =>
    if (s.qp fn.val q).valid && (s.qp fn.val q).errCause == 0 then (s.qpError fn.val q 3).readFailed fn.val else s
  | .fragList fn q => s.listReadFailed fn.val q
  | .data seq step => s.dataReadFailed seq step
  | .mailbox fn _ => s.readFailed fn.val

/-- DMA_READ_FAIL (R37). -/
def execDmaReadFail (rd : DmaRead) (s : State) : Host.Outcome State Fault Refusal := .next (s.dmaFail rd)

/-- COMPLETION_TIMEOUT (R20, R37): the read fails in the same way. -/
def execCompletionTimeout (rd : DmaRead) (s : State) : Host.Outcome State Fault Refusal := .next (s.dmaFail rd)

/-! ## Loopback (R41, R42) -/

/-- No function has READY set. -/
def State.noneReady (s : State) : Bool := s.fns.all (fun e => !e.2.port.ready)

/-- HIF_LPBK_CTRL takes a value: a depth other than 0 needs R41, else the write is ignored and DEPTH reads 0. -/
def State.hifLpbk (s : State) (depth : Nat) (lane : BitVec 4) (errors : Nat) : State :=
  if depth ≠ 0 ∧ !s.noneReady then { s with hif := { s.hif with lpbkDepth := 0 } }
  else
    let e := if lane = s.hif.lpbkLane then s.hif.lpbkErr else 0
    ({ s with hif := { s.hif with lpbkDepth := BitVec.ofNat 3 depth, lpbkLane := lane
                                  lpbkErr := satAdd e (if depth = 1 ∨ depth = 2 then errors else 0) } }).refresh

/-- HIF_LPBK_OFF (R41). -/
def execHifLpbkOff (lane : BitVec 4) (s : State) : Host.Outcome State Fault Refusal := .next (s.onBar4 (·.hifLpbk 0 lane 0))

/-- HIF_LPBK_NEAR_SERIAL (R41); `errors` are the PRBS31 errors counted on the lane. -/
def execHifLpbkNearSerial (lane : BitVec 4) (errors : Nat) (s : State) : Host.Outcome State Fault Refusal :=
  .next (s.onBar4 (·.hifLpbk 1 lane errors))

/-- HIF_LPBK_NEAR_PARALLEL (R41). -/
def execHifLpbkNearParallel (lane : BitVec 4) (errors : Nat) (s : State) : Host.Outcome State Fault Refusal :=
  .next (s.onBar4 (·.hifLpbk 2 lane errors))

/-- HIF_LPBK_LTSSM (R41): by register, or from the partner's side whatever DEPTH holds. -/
def execHifLpbkLtssm (lane : BitVec 4) (fromPartner : Bool) (s : State) : Host.Outcome State Fault Refusal :=
  .next (
    if !fromPartner then s.onBar4 (·.hifLpbk 3 lane 0)
    else if s.up && s.noneReady && !s.scrapped then { s with hif := { s.hif with lpbkPartner := true } } else s)

/-- HIF_LPBK_TRANSACTION (R41). -/
def execHifLpbkTransaction (lane : BitVec 4) (s : State) : Host.Outcome State Fault Refusal :=
  .next (s.onBar4 (·.hifLpbk 4 lane 0))

/-- LPBK_TLP_RETURN (R24, R41, R42): a TLP to BAR4 0xE_0000 goes back to HIF_LPBK_ADDR. -/
def execLpbkTlpReturn (data : List Byte) (s : State) : Host.Outcome State Fault Refusal :=
  .next (
    if s.up && s.hif.lpbkDepth == 4 && (s.fn 0).port.bme then s.emit (.bytes 0 s.hif.lpbkAddr data) else s)

end Sys2Proof.Machine
end

