-- ==== Sys2Proof/Machine/Entropy.lean ====
section
/-! DEFINITION. The central entropy service (R313 to R330): health tests, start-up reruns, conditioned blocks, reseeds,
recovery, the RNG window and the raw tap. -/

namespace Sys2Proof.Machine

/-! ## Health tests (R314 to R317) -/

/-- The central service runs: power is good, the device is not SCRAPPED and its known-answer tests passed. -/
def State.rngRuns (s : State) : Bool := s.up && s.pwr.state != 4 && !s.scrapped && s.rng.katOk

/-- A test can fail on a source: a continuous test while the source serves, a start-up run while one is under way. -/
def Src.canFail (x : Src) (test : Nat) : Bool := !x.dead && (if test = 2 then x.startup else x.ok)

/-- A source after a failed test: it reruns its start-up, or is DEAD after 8 failed runs (R316, R317). -/
def Src.failed_ (x : Src) (test : Nat) : Src :=
  let n := if test = 2 then x.runs + 1 else x.runs
  { x with ok := false, failed := true, runs := n, dead := decide (8 ≤ n), startup := decide (n < 8), fails := satSucc x.fails }

/-- Empty the RNG buffer of every function (R316, R326). -/
def State.flushBuffers (s : State) : State :=
  { s with fns := tabMap {} (fun r => { r with rngw := { r.rngw with buf := [] } }) s.fns }

/-- HEALTH_TEST_FAIL (R316, R317, R322, R330): test 0 is the repetition count, 1 the adaptive proportion, 2 a start-up
run. -/
def execHealthTestFail (src : Fin 3) (test : Fin 3) (s : State) : Host.Outcome State Fault Refusal :=
  let x := s.rng.srcs.getD src.val {}
  .next (
    if s.rngRuns && x.canFail test.val then
      let y := x.failed_ test.val
      let s1 := s.setSource src.val y
      let s2 := { s1 with rng := { s1.rng with drbgFailed := true, pool := 0, demand := false } }.flushBuffers
      let s3 := (s2.logWord 0x050 (src.val + test.val * 256 + y.runs * 65536) 0).raise 20 src.val test.val
      (if y.dead then s3.raise 21 src.val 0 else s3).holdForEntropy.refresh
    else s)

/-- SOURCE_STARTUP_PASS (R315, R317): a run of 4,096 samples passes both tests, and the count of runs starts anew. -/
def execSourceStartupPass (src : Fin 3) (s : State) : Host.Outcome State Fault Refusal :=
  let x := s.rng.srcs.getD src.val {}
  .next (
    if s.rngRuns && x.startup then
      s.setSource src.val { x with ok := true, failed := false, startup := false, runs := 0 }
    else s)

/-! ## Reseeds (R319 to R322) -/

/-- Serve the reseed requests of generators that were not served (R134, R322). -/
def State.servePending (s : State) : State :=
  (List.range 32).foldl (fun a k => if (a.gen k).pending then a.reseedGen (decide (16 ≤ k)) (k % 16) else a) s

/-- The DRBG has reseeded from a block of the pool; what waited for it is served (R321, R322). -/
def State.reseeded (s : State) : State :=
  ({ s with rng := { s.rng with pool := s.rng.pool - 1, demand := false, last := s.now
                                reseeds := s.rng.reseeds + 1 } }).servePending

/-- A reseed that must be made: from the pool, or waiting for the next block (R320, R330). -/
def State.mustReseed (s : State) : State :=
  if 0 < s.rng.pool then s.reseeded else { s with rng := { s.rng with demand := true } }

/-- The DRBG is instantiated and not marked failed. -/
def State.drbgLive (s : State) : Bool := s.rngRuns && s.rng.ready && !s.rng.drbgFailed

/-- CONDITIONED_BLOCK_READY (R318, R320): a block of 384 samples of each source enters the pool of 4, unless the raw
tap takes the samples (R329). A waiting reseed takes it. -/
def execConditionedBlockReady (s : State) : Host.Outcome State Fault Refusal :=
  .next (
    if s.rngRuns && s.rng.srcs.all (·.ok) && !s.rng.rawEn && decide (s.rng.pool < 4) then
      let s1 := { s with rng := { s.rng with pool := s.rng.pool + 1 } }
      if s1.drbgLive && s1.rng.demand then s1.reseeded else s1
    else s)

/-- DRBG_RESEED_INTERVAL (R320): 100 µs since the last reseed. -/
def execDrbgReseedInterval (s : State) : Host.Outcome State Fault Refusal :=
  .next (if s.drbgLive && decide (s.rng.last + 100 ≤ s.now) then s.mustReseed else s)

/-- DRBG_REQUEST_LIMIT (R320): 2^20 generate requests since the last reseed, which engines and lanes make by their
firmware (assumption 12). -/
def execDrbgRequestLimit (s : State) : Host.Outcome State Fault Refusal :=
  .next (if s.drbgLive then s.mustReseed else s)

/-- Import keys that the management processor could not generate while the DRBG did not serve (R322; assumption 43). -/
def State.lateKeys (s : State) : State := if s.vlt.unsealed && !s.vlt.keysHalted then s.importKeys else s

/-- DRBG_RECOVERY (R316, R322, R323, R89): every source has passed and a fresh block is ready. A DRBG marked failed
reseeds; one that the raw tap stopped is instantiated anew, and the generators are seeded. -/
def execDrbgRecovery (s : State) : Host.Outcome State Fault Refusal :=
  .next (
    if !(s.rngRuns && s.rng.srcs.all (·.ok) && decide (0 < s.rng.pool) && !s.rng.rawEn) then s
    else if !s.rng.ready then
      (({ s with rng := { s.rng with ready := true, drbgFailed := false, pool := s.rng.pool - 1, demand := false, last := s.now
                                     perso := s.nv.perso } }).seedAll).lateKeys.refresh
    else if s.rng.drbgFailed then
      ({ s with rng := { s.rng with drbgFailed := false } }).reseeded.lateKeys.refresh
    else s)

/-- A BAR4 write takes effect on a window that the boot loader does not serve (R33, R344, R367). -/
def State.bar4Full (s : State) : Bool := s.bar4Writes && !s.mp.loader

/-- RNG_CTRL takes a value: RESEED is ignored while the DRBG is marked failed (R320, R327). -/
def State.rngCtrl (s : State) (v : Word) : State :=
  if !s.mp.loader && v.getLsbD 0 && s.drbgLive && !s.rng.demand then s.mustReseed else s

/-- RNG_CTRL_RESEED (R320, R327, R330). -/
def execRngCtrlReseed (v : Word) (s : State) : Host.Outcome State Fault Refusal := .next (s.onBar4 (·.rngCtrl v))

/-! ## The RNG window (R324 to R326) -/

/-- Bytes as a number, least significant first. -/
def bytesNat (l : List Byte) : Nat := l.foldr (fun b n => b.toNat + 256 * n) 0

/-- A read of RNG_DATA of 4 or 8 bytes. -/
def State.rngRead (s : State) (fn size : Nat) : State :=
  let w := (s.fn fn).rngw
  if size ≤ w.buf.length then
    (s.setRngw fn { w with buf := w.buf.drop size }).emit (.read (BitVec.ofNat 64 (bytesNat (w.buf.take size))))
  else (s.setRngw fn { w with underrun := true, underruns := satSucc w.underruns }).emit (.read 0)

/-- RNG_DATA_READ (R26, R324, R326): `off` is the BAR0 offset. -/
def execRngDataRead (fn : Fin 1024) (off size : Nat) (s : State) : Host.Outcome State Fault Refusal :=
  .next (
    if !(off == 0x2000 || off == 0x2004) then s
    else s.atBar fn.val fun s =>
    if !accessOk off size then (s.badAccess fn.val).emit (.read 0)
    else s.rngRead fn.val size)

/-- The buffer of a function is filled: entropy is ready, the device is not ALARMED and no FLR is in progress (R325). -/
def State.rngFills (s : State) (fn : Nat) : Bool :=
  s.drbgLive && !s.rng.rawEn && !s.rnd.alarmed && !(s.fn fn).port.flrBusy && s.fnExists fn

/-- RNG_BUFFER_REFILL (R321, R326): one generate call fills the 64 bytes whenever LEVEL is 32 or less. -/
def execRngBufferRefill (fn : Fin 1024) (s : State) : Host.Outcome State Fault Refusal :=
  let w := (s.fn fn.val).rngw
  .next (
    if s.rngFills fn.val && !s.rng.demand && decide (w.buf.length ≤ 32) then
      let n := 64 - w.buf.length
      (s.setRngw fn.val { w with buf := w.buf ++ freeBytes s.free n }).draw n
    else s)

/-! ## The raw tap (R328, R329) -/

/-- A source starts its start-up run anew, unless it is DEAD (R323 step 2). -/
def Src.rerun (x : Src) : Src := if x.dead then x else { x with ok := false, startup := true }

/-- RNG_RAW_CTRL takes a value (R329): EN = 1 needs MAKER, INTEGRATOR or RETURNED and no READY. EN = 0 after the tap was on
runs the start-up of R323 from step 2. -/
def State.rawCtrl (s : State) (v : Word) : State :=
  let src := v.extractLsb' 2 2
  if s.mp.loader then s
  else if v.getLsbD 0 then
    if (s.lcState == 1 || s.lcState == 2 || s.lcState == 4) && s.noneReady then
      ({ s with rng := { s.rng with rawSrc := src, rawEn := true } }).refresh
    else s
  else if s.rng.rawEn then
    ({ s with rng := { s.rng with rawSrc := src, rawEn := false, ready := false, drbgFailed := false, pool := 0
                                  demand := false, srcs := s.rng.srcs.map Src.rerun } }).refresh
  else { s with rng := { s.rng with rawSrc := src } }

/-- RNG_RAW_CTRL_WRITE (R329). -/
def execRngRawCtrlWrite (v : Word) (s : State) : Host.Outcome State Fault Refusal := .next (s.onBar4 (·.rawCtrl v))

end Sys2Proof.Machine
end

