-- ==== Sys2Proof/Machine/Memory.lean ====
section
/-! DEFINITION. HBM in service (R203) and its loopback (R201, R220). -/

namespace Sys2Proof.Machine

/-- HBM_PATROL (R203, R392): a pass ends, with the pseudo-channels of the errors it met. Each error is counted and
raises its source. -/
def execHbmPatrol (corrected uncorrected : List (Fin 64)) (s : State) : Host.Outcome State Fault Refusal :=
  .next (
    if s.up && s.hbm.trained && decide (s.pwr.state < 2) && s.hbm.lpbkDepth == 0 then
      let s1 := { s with hbm := { s.hbm with
        patrols := s.hbm.patrols + 1
        corr := satAdd s.hbm.corr corrected.length, uncorr := satAdd s.hbm.uncorr uncorrected.length } }
      let s2 := corrected.foldl (fun a p => a.raise (10 + p.val / 32) p.val 0) s1
      uncorrected.foldl (fun a p => a.raise (12 + p.val / 32) p.val 0) s2
    else s)

/-- HBM_LPBK_CTRL takes a depth other than 0: accepted under the condition of R41, else DEPTH reads 0. -/
def State.hbmLpbk (s : State) (depth : Nat) (pc : BitVec 6) (errors : Nat) : State :=
  if !s.noneReady then { s with hbm := { s.hbm with lpbkDepth := 0 } }
  else
    let e := if pc = s.hbm.lpbkPc then s.hbm.lpbkErr else 0
    ({ s with hbm := { s.hbm with lpbkDepth := BitVec.ofNat 3 depth, lpbkPc := pc, lpbkErr := satAdd e errors } }).refresh

/-- Retrain HBM (R201, R220): its contents are lost, and a region whose group is disabled leaves service (R13). -/
def State.retrainHbm (s : State) (pcFail : QWord) : State :=
  let s1 := { s with hbm := { s.hbm with lpbkDepth := 0 } }.trainHbm pcFail
  let s2 := s1.pulpDropTier false
  ((List.range 4).foldl (fun a r =>
    if (a.region r).inService && !a.hbm.groups.getLsbD r then a.loseRegion r else a) s2).refresh

/-- HBM_LPBK_OFF (R220): writing DEPTH back to 0 retrains HBM; `b.pcFail` are the pseudo-channels that fail. -/
def execHbmLpbkOff (pc : BitVec 6) (b : BootIn) (s : State) : Host.Outcome State Fault Refusal :=
  .next (s.onBar4 fun s =>
    let e := if pc = s.hbm.lpbkPc then s.hbm.lpbkErr else 0
    let s1 := { s with hbm := { s.hbm with lpbkPc := pc, lpbkErr := e } }
    if s.hbm.lpbkDepth = 0 then s1 else s1.retrainHbm b.pcFail)

/-- HBM_LPBK_PHY (R220): depth 1; `errors` are the PRBS31 errors counted. -/
def execHbmLpbkPhy (pc : BitVec 6) (errors : Nat) (s : State) : Host.Outcome State Fault Refusal :=
  .next (s.onBar4 (·.hbmLpbk 1 pc errors))

/-- HBM_LPBK_FAR_END (R220): depth 2. -/
def execHbmLpbkFarEnd (pc : BitVec 6) (errors : Nat) (s : State) : Host.Outcome State Fault Refusal :=
  .next (s.onBar4 (·.hbmLpbk 2 pc errors))

/-- HBM_LPBK_MARCH (R220): depth 3, a march test over the pseudo-channel. -/
def execHbmLpbkMarch (pc : BitVec 6) (errors : Nat) (s : State) : Host.Outcome State Fault Refusal :=
  .next (s.onBar4 (·.hbmLpbk 3 pc errors))

end Sys2Proof.Machine
end

