-- ==== Sys2Proof/Machine/Rind.lean ====
section
/-! DEFINITION. Rind (R371 to R384): sensor events and their filters, the response ladder with main power on and
without it, the stimulus, alarms and their clearing, and TAMP_ALERT_N. -/

namespace Sys2Proof.Machine

/-! ## Groups (R371, R372) -/

/-- Cells of a group: 8 in each light group, one in the others. -/
def groupCells (g : Nat) : Nat := if g < 12 then 8 else 1

/-- The region of a region-scope group. -/
def groupScope (g : Nat) : Option Nat :=
  if g < 8 then some (g / 2) else if g < 12 then some (g - 8) else if g < 16 then some (g - 12)
  else if within g 19 22 then some (g - 19) else none

def State.fused (s : State) (g : Nat) : Bool := s.nv.fuses.getLsbD g

/-- Rind powers the group on the present supply; groups that were off resume 100 µs after the rails are good. -/
def State.groupOn (s : State) (g : Nat) : Bool :=
  s.pwr.vaon && !s.fused g
    && (backupGroup g || (s.rnd.supply == 0 && decide (s.rnd.lostAt + 100 ≤ s.rnd.us)))

/-! ## The filter (R373) -/

def State.grpK (s : State) (g : Nat) : Nat := bitsOf (s.grpCfg g).toNat 27 24
def State.grpW (s : State) (g : Nat) : Nat := bitsOf (s.grpCfg g).toNat 13 0

/-- An event at `t` lies in the window that ends now. On the backup cell each powered window stands for one
millisecond, and W is rounded up to whole milliseconds. -/
def State.inWindow (s : State) (g t : Nat) : Bool :=
  if s.rnd.supply = 2 then decide (s.rnd.us / 1000 < t / 1000 + max 1 (ceilDiv (s.grpW g) 1000))
  else decide (s.rnd.us < t + s.grpW g)

/-- Events of a cell in its window. -/
def State.cellEvents (s : State) (g c : Nat) : List Nat :=
  (Tab.get [] s.rnd.events (8 * g + c)).filter (fun t => s.inWindow g t)

/-- Some cell of a group counts K events. -/
def State.atK (s : State) (g : Nat) : Bool :=
  (List.range (groupCells g)).any (fun c => decide (s.grpK g ≤ (s.cellEvents g c).length))

/-- Count an event of a cell. -/
def State.addEvent (s : State) (g c : Nat) : State :=
  { s with rnd := { s.rnd with events := Tab.put [] s.rnd.events (8 * g + c) (s.cellEvents g c ++ [s.rnd.us]) } }

/-! ## The responses (R376 to R384) -/

/-- TAMP_ALERT_N is asserted (R382). -/
def State.tampAlert (s : State) : Bool :=
  (List.range 30).any (fun g => s.rnd.alarm.getLsbD g && !s.fused g && decide (1 ≤ s.grpAction g)) || s.rnd.hold
    || !s.rnd.latch.isEmpty

/-- Write a latch entry, or count one that finds the latch full (R384). -/
def State.latchEntry (s : State) (g l n : Nat) : State :=
  if 16 ≤ s.rnd.latch.length then { s with rnd := { s.rnd with latchOvf := satSucc s.rnd.latchOvf } }
  else { s with rnd := { s.rnd with latch := s.rnd.latch ++
    [{ group := g, action := l, supply := max 1 s.rnd.supply, count := min n 0xFFFF, sec := (s.rnd.us - s.rnd.lostAt) / 1000000 }] } }

/-- The response of Rind alone (R383, R474). With the main rails good and the main domain held in reset only
ZEROISE_LATCH sets HOLD, and the latch entry reads SUPPLY 1 (assumption 23). -/
def State.rindAlone (s : State) (g l n : Nat) : State :=
  let off := s.rnd.supply != 0
  let s1 := s.latchEntry g l n
  let s2 := if 4 ≤ l then { s1 with nv := { s1.nv with mwk := none } } else s1
  if (off && decide (3 ≤ l)) || l == 5 then { s2 with rnd := { s2.rnd with hold := true } } else s2

/-- The level that an alarm of a group is carried out at (R378). -/
def State.rindLevel (s : State) (g : Nat) : Nat :=
  let l := s.grpAction g
  if l = 2 then (match groupScope g with
    | some r => if s.othersServe r then 2 else 3
    | none => 2) else l

/-- Carry out a level for Rind with main power on, but for the reset of ZEROISE (R376 to R379). -/
def State.rindCarry (s : State) (g l : Nat) : State :=
  let now := s.rnd.level
  let s1 := s.raiseLevel l
  let s2 := if l = 2 then
      (match groupScope g with
       | some r => if now < 3 then
           ((s1.quarantineRegion r none .tamper).raiseLow (srcRegionOff r 43) 0xFF 0
             ((regionGroups r).any (fun x => s.rnd.present.getLsbD x))).rehome else s1
       | none => s1)
    else if l < 3 then s1
    else
      let s3 := if now < 3 then s1.halt .tamper else s1
      if l = 3 then s3
      else
        let s4 := s3.zeroiseKeys (if l = 5 then 3 else 1)
        if l = 5 then { s4 with rnd := { s4.rnd with hold := true } } else s4
  s2.raiseLow 29 0xFF 0 (decide (s.rnd.present ≠ 0))

/-- The RIND_ALARM record (R413). -/
def State.rindRecord (s : State) (g l n : Nat) : State :=
  s.logWord 0x020 (g + l * 2 ^ 8 + s.rnd.supply * 2 ^ 16 + s.rnd.level * 2 ^ 24 + min n 0xFFFF * 2 ^ 32) 0

/-- Make the warm reset that ZEROISE ends in (R380). -/
def State.afterLevel (s : State) (before : Nat) (b : BootIn) : State :=
  if before < 4 ∧ 4 ≤ s.rnd.level ∧ s.up then s.warm b else s

/-- A group alarms with `n` events in the window. A lower level than the one in force is recorded alone (R377). -/
def State.rindAlarm (s : State) (g n : Nat) (present : Bool) (b : BootIn) : State :=
  let bit := BitVec.ofNat 30 (2 ^ g)
  let s1 := { s with rnd := { s.rnd with
    alarm := s.rnd.alarm ||| bit, present := if present then s.rnd.present ||| bit else s.rnd.present } }
  if s.up && s.rnd.supply == 0 then
    let l := s1.rindLevel g
    let s2 := if 1 ≤ l ∧ s1.rnd.level ≤ l then s1.rindCarry g l else s1
    (s2.rindRecord g l n).afterLevel s.rnd.level b
  else s1.rindAlone g (s1.grpAction g) n

/-- The condition of the group is a level: a temperature limit, the mesh or a tamper input (R371). -/
def levelGroup (g : Nat) : Bool := within g 19 23 || within g 25 29

/-- A level condition is present from its first event on (R387). -/
def State.levelSeen (s : State) (g : Nat) : State :=
  if levelGroup g then { s with rnd := { s.rnd with present := s.rnd.present ||| BitVec.ofNat 30 (2 ^ g) } } else s

/-- RIND_SENSOR_EVENT (R371 to R384): an event of a cell, and the alarm of its group when it completes K in W. -/
def execRindSensorEvent (group : Fin 30) (cell : Fin 8) (b : BootIn) (s : State) :
    Host.Outcome State Fault Refusal :=
  let g := group.val
  if groupCells g ≤ cell.val then .fault .noSuchUnit
  else .next (
    if s.groupOn g then
      let s1 := (s.addEvent g cell.val).levelSeen g
      if (s.cellEvents g cell.val).length < s.grpK g ∧ s.grpK g ≤ (s1.cellEvents g cell.val).length then
        s1.rindAlarm g (s1.cellEvents g cell.val).length true b else s1
    else s)

/-! ## The stimulus (R375) -/

/-- RND_PRESENT (R387): a cell of the group counts K within W, or a level condition is present. -/
def State.presentNow (s : State) : BitVec 30 :=
  BitVec.ofNat 30 ((List.range 30).foldl (fun n g =>
    n + (if (if levelGroup g then s.rnd.present.getLsbD g else s.atK g) then 2 ^ g else 0)) 0)

/-- Stimulate a group: main rails good and the group on. R375 bars SCRAPPED for RUN_ALL alone. -/
def State.stimOn (s : State) (g : Nat) : Bool := s.rnd.supply == 0 && s.groupOn g

/-- A cell that did not fire: its group's bit and its group's alarm. -/
def State.stimFailed (s : State) (g : Nat) (b : BootIn) : State :=
  ({ s with rnd := { s.rnd with stimFail := s.rnd.stimFail ||| BitVec.ofNat 30 (2 ^ g) } }).rindAlarm g 0 false b

/-- RIND_STIMULUS_CELL (R375): `fired` is what the cell did under its stimulus. -/
def execRindStimulusCell (group : Fin 30) (cell : Fin 8) (fired : Bool) (b : BootIn) (s : State) :
    Host.Outcome State Fault Refusal :=
  if groupCells group.val ≤ cell.val then .fault .noSuchUnit
  else .next (if s.stimOn group.val && !fired then s.stimFailed group.val b else s)

/-- RUN_ALL (R375, R387): a pass over every cell; `silent` are the groups with a cell that did not fire. The pass
is one instant, so BUSY reads 0 after it (assumption 4). -/
def execRunAll (silent : List (Fin 30)) (b : BootIn) (s : State) : Host.Outcome State Fault Refusal :=
  .next (s.onBar4 fun s =>
    silent.foldl (fun a g => if a.stimOn g.val then a.stimFailed g.val b else a) s)

/-! ## Alarm bits and conditions (R371, R387) -/

/-- RND_ALARM takes a value: a bit written 1 clears unless its group's condition is present (R387). -/
def State.alarmWrite (s : State) (v : Word) : State :=
  { s with rnd := { s.rnd with alarm := s.rnd.alarm &&& ~~~(v.setWidth 30 &&& ~~~s.presentNow) } }

/-- RND_ALARM_WRITE (R387). -/
def execRndAlarmWrite (v : Word) (s : State) : Host.Outcome State Fault Refusal := .next (s.onBar4 (·.alarmWrite v))

/-- The condition of the Rind sources of a group ends with the last of their groups (R401). -/
def State.rindSourcesEnd (s : State) (g : Nat) : State :=
  let s1 := if s.rnd.present = 0 then s.presentEnds 29 else s
  match groupScope g with
  | some r => if (regionGroups r).any (fun x => s.rnd.present.getLsbD x) then s1 else s1.presentEnds (srcRegionOff r 43)
  | none => s1

/-- RIND_CONDITION_END (R387, R401): the condition is over and no cell counts K within W any longer. -/
def execRindConditionEnd (group : Fin 30) (s : State) : Host.Outcome State Fault Refusal :=
  let g := group.val
  .next (
    if s.pwr.vaon && s.rnd.present.getLsbD g && !s.atK g then
      ({ s with rnd := { s.rnd with present := s.rnd.present &&& ~~~(BitVec.ofNat 30 (2 ^ g)) } }).rindSourcesEnd g
    else s)

end Sys2Proof.Machine
end

