-- ==== Sys2Proof/Machine/Firmware.lean ====
section
/-! DEFINITION. Firmware restarts (R331, R344 to R347, R352): what stops the management processor, and the start that
follows. -/

namespace Sys2Proof.Machine

/-- The management processor serves: firmware, or the ROM's loader, runs on it (R333, R344). -/
def Mp.serving (m : Mp) : Bool := m.running || m.loader

/-- A firmware restart begins (R347): SERVICE falls, the hardware answers outstanding requests, and a secured SPDM
session ends. A FW_ACTIVATE or FW_RESTART waits for the start. -/
def State.fwStop (s : State) (cause : Nat) (revert : Bool) : State :=
  let s0 := match s.mp.stage with
    | some (r, _) => s.mbRespond r.fn.val 0x0701 r.token .stateRefused .mpRestarting 0 []
    | none => s
  let s1 := match s.mp.rlReq with
    | some (fn, cmd, token) => s0.mbRespond fn cmd token .stateRefused .mpRestarting 0 []
    | none => s0
  let s2 := (s1.grp.pending.filter (·.open_)).foldl (fun a w => a.mbRespond w.fn w.cmd w.token .stateRefused .mpRestarting 0 []) s1
  let s2b := match s2.grp.req with
    | some token => s2.mbRespond 0 0x0801 token .stateRefused .mpRestarting 0 []
    | none => s2
  let s3 := s2b.setGrp { s2b.grp with req := none, pending := s2b.grp.pending.map (fun w => { w with open_ := false }) }
  { s3 with mp := { s3.mp with running := false, loader := false, service := false, rlReq := none, staging := false
                               stage := none, restart := some (cause, revert) }
            spdm := { s3.spdm with session := none, finished := false } }

/-- A fault of the management processor: its source, and the restart unless a reset came first. -/
def State.fwFault (s : State) (src cause : Nat) (revert : Bool) (b : BootIn) : State :=
  let s1 := s.raiseB b src 0xFF 0 false
  if s1.mp.epoch = s.mp.epoch ∧ s1.mp.serving then s1.fwStop cause revert else s1

/-- WATCHDOG_EXPIRE (R331, R347). -/
def execWatchdogExpire (s : State) : Host.Outcome State Fault Refusal :=
  .next (if s.up && s.mp.serving then s.fwFault 26 3 true {} else s)

/-- LOCKSTEP_MISMATCH (R331, R347). -/
def execLockstepMismatch (pair : Fin 2) (s : State) : Host.Outcome State Fault Refusal :=
  .next (if s.up && s.mp.serving then s.fwFault (24 + pair.val) 4 true {} else s)

/-- Abandon a trial (R345): the previous bank is active again. -/
def State.revertTrial (s : State) : State :=
  let s1 := { s with mp := { s.mp with activeB := !s.mp.activeB, trial := false, reverted := true } }
  s1.bankRecord.raiseLow 27 0xFF 0 false

/-- Answer the FW_ACTIVATE or FW_RESTART that a start ends (R345). -/
def State.answerStart (s : State) (wasTrial : Bool) : State :=
  match s.mp.actReq with
  | none => s
  | some (fn, cmd, token) =>
    let s1 := { s with mp := { s.mp with actReq := none } }
    let st := if cmd = 0x0702 ∧ !(wasTrial && s.mp.trial) then Status.versionMismatch else Status.ok
    if s.mp.running then (s1.adminLog cmd 0 st []).mbRespond fn cmd token st .none 0 [] else s

/-- The firmware that comes up re-sends COMMIT for every commit that awaits quorum, and counts its ACKs anew (R457). -/
def State.resendCommits (s : State) : State :=
  if s.mp.running then
    let own := if s.grp.resyncing.isSome then 0 else 1
    let s1 := s.setGrp { s.grp with pending := s.grp.pending.map (fun w => { w with acks := own }) }
    s1.grp.pending.foldl (fun a w => a.sendCommit w.mseq w.tenant w.slot) s1
  else s

/-- Firmware that comes up takes a reload through its load again where the tests had not passed (R349). -/
def State.resumeReload (s : State) : State :=
  if s.reloadAt s.mp.rlRegion.val 3 && !s.mp.rlBack then (s.storesQuiet s.mp.rlRegion.val).beginLoad s.mp.rlRegion.val else s

/-- FIRMWARE_START (R344 to R347, R352): the ROM chooses a bank and its firmware comes up. A watchdog or lockstep
restart on trial reverts first. -/
def execFirmwareStart (bankAOk bankBOk tableOk : Bool) (s : State) : Host.Outcome State Fault Refusal :=
  .next (
    if !s.up then s
    else match s.mp.restart with
    | none => s
    | some (cause, revert) =>
      let s1 := { s with mp := { s.mp with restart := none } }
      let s2 := if revert && s1.mp.trial then s1.revertTrial.startFw 6 bankAOk bankBOk tableOk false
        else s1.startFw cause bankAOk bankBOk tableOk false
      ((s2.answerStart s.mp.trial).resendCommits).resumeReload.refresh)

end Sys2Proof.Machine
end

