-- ==== Sys2Proof/Machine/Faults.lean ====
section
/-! DEFINITION. The fault collector in service (R390 to R408): events, escalation, acknowledgement, quiet exits and the
first-fault capture. -/

namespace Sys2Proof.Machine

/-! ## Events (R391 to R395) -/

/-- The unit of an event lies in the block of its source. -/
def inBlock (n unit : Nat) : Bool := match srcBlock n with
  | some b => (blockUnits b).contains unit
  | none => false

/-- The class of a region source that names units, for the offsets of R393 that stop a unit. -/
def uncorrClass (o : Nat) : Option UnitClass :=
  if o < 4 then some .pip else if within o 20 23 then some .med
  else if within o 31 32 then some .cip else if within o 33 36 then some .dig else none

/-- An invariant fault of an engine (R172, R393): the job it runs ends with INVARIANT. -/
def State.invarEvent (s : State) (c : UnitClass) (n detail : Nat) (b : BootIn) : State :=
  let s1 := match s.runningJob c n with
    | some (it, st) => s.failJob c n it st
    | none => s
  let src := srcInvar c n
  ((s1.takeUnits src c [n]).raiseB b src n detail false).unitGone c n

/-- The cluster or the Medlar engine that a control-store fault of a region names (R393). -/
def csUnits (r unit : Nat) : Option (UnitClass × List Nat) :=
  if unit < 128 ∧ unit / 32 = r then some (.pip, blockUnits (.pip, unit / 8))
  else if unit < 32 ∧ unit / 8 = r then some (.med, [unit]) else none

/-- Corrected and detected errors that a register counts besides their source. -/
def State.countError (s : State) (n : Nat) : State :=
  if n = 10 ∨ n = 11 then { s with hbm := { s.hbm with corr := satSucc s.hbm.corr } }
  else if n = 12 ∨ n = 13 then { s with hbm := { s.hbm with uncorr := satSucc s.hbm.uncorr } }
  else if n = 14 then { s with hbm := { s.hbm with sealFail := satSucc s.hbm.sealFail } }
  else if n < 64 then s
  else
    let o := srcOff n
    let r := srcRegion n
    if within o 4 7 then
      let k := 4 * r + (o - 4)
      s.setCluster k { s.cluster k with corr := satSucc (s.cluster k).corr }
    else if o = 28 then s.setEng { s.eng with medCorr := satSucc s.eng.medCorr }
    else if o = 37 then s.setEng { s.eng with curCorr := satSucc s.eng.curCorr }
    else s

/-- An event of a region source with the containment of R393 that the collector itself can carry out. The
containment of the other sources comes with their own commands (assumption 21). -/
def State.regionEvent (s : State) (n unit detail : Nat) (present : Bool) (b : BootIn) : State :=
  let o := srcOff n
  let r := srcRegion n
  if o = 42 then (if (s.region r).inService || s.reloads r then ((s.loseRegion r).raiseB b n unit detail present).rehome else s)
  else if o = 38 then
    match csUnits r unit with
    | some (c, l) => (((s.takeUnits n c l).raiseB b n unit detail present).checkDead r).rehome
    | none => s.raiseB b n unit detail present
  else match uncorrClass o with
  | some c => if inBlock n unit then s.unitFault c unit detail b else s.raiseB b n unit detail present
  | none =>
    if within o 8 11 && inBlock n unit then s.invarEvent .pip unit detail b
    else if within o 24 27 && inBlock n unit then s.invarEvent .med unit detail b
    else ((s.countError n).raiseB b n unit detail present).rehome

/-- What a source's event breaks: the slot of VLT_SHARE and the blob of KS_INTEG, which `hit` names (R287, R296). -/
def State.eventBreaks (s : State) (n : Nat) (hit : Option QWord) : State :=
  match hit with
  | some h =>
    if n = 16 ∧ hLoc h = 0 then s.breakSlot (hTenant h) (hIndex h)
    else if n = 18 ∧ hLoc h = 1 then s.breakBlob (hTenant h) (hIndex h)
    else s
  | none => s

/-- FAULT_EVENT (R390 to R395, R400, R402 to R404): a source raises an event. -/
def execFaultEvent (src : Fin 256) (unit : BitVec 8) (detail : BitVec 16) (m : FaultMark) (b : BootIn) (s : State) : Host.Outcome State Fault Refusal :=
  let n := src.val
  .next (
    if !s.up || s.scrapped || srcReserved n || !s.flt.cfgLoaded then s
    else if n = 24 ∨ n = 25 then s.fwFault n 4 true b
    else if n = 26 then s.fwFault n 3 true b
    else if n = 28 then (s.fwFault n (Config.freeByte s.free).toNat false b).draw 1
    else if n = 2 then (s.linkDrop.logWord 0x070 1 0).raiseB b n unit.toNat detail.toNat m.present
    else if n < 64 then ((s.eventBreaks n m.hit).countError n).raiseB b n unit.toNat detail.toNat m.present
    else s.regionEvent n unit.toNat detail.toNat m.present b)

/-! ## Escalation (R396) -/

/-- The level above the one a source stands at; a chip source skips QUARANTINE (R395). -/
def nextLevel (n l : Nat) : Nat := if n < 64 ∧ l + 1 = 2 then 3 else l + 1

/-- Carry out the level that an escalation reached, as its event's level is; a block that it quarantined may have been the last of its
region (R394). -/
def State.carryB (s : State) (b : BootIn) (n l before : Nat) : State :=
  let s1 := s.carryLow n l
  (if (srcBlock n).isSome then s1.checkDead (srcRegion n) else s1).rehome.afterLevel before b

/-- Escalate a source one step: its entry at the receiving level, its new level and the receiving level's timer. -/
def State.escalate (s : State) (n : Nat) (b : BootIn) : State :=
  let x := s.src n
  let l := min (nextLevel n x.levelNow) (s.srcCap n)
  let lvl := min (x.grace + 1) 3
  let again := decide (l < s.srcCap n)
  let s1 := s.setSrc n { x with levelNow := l, grace := if again then lvl else 0
                                graceAt := if again then s.now + s.graceOf lvl else 0 }
  let s2 := s1.pushHist (decide (n < 64) || lvl == 3)
    { seq := 0, src := n, unit := x.lastUnit, sev := srcSev n, level := l, selfCleared := false, escalated := true
      passedUp := decide (x.grace < 3), detail := BitVec.ofNat 16 x.lastDetail
      tick := if x.grace < 3 then x.tick else s.now }
  let s3 := if s2.flt.firstValid && s2.flt.firstSrc == n then { s2 with flt := { s2.flt with firstEsc := true } } else s2
  ((s3.sumEvent 0).sumEvent 2).carryB b n l s.rnd.level

/-- GRACE_EXPIRE (R396, R408): an acknowledgement has stopped the timer, and a source at its cap has none. -/
def execGraceExpire (src : Fin 256) (b : BootIn) (s : State) : Host.Outcome State Fault Refusal :=
  let x := s.src src.val
  .next (
    if s.up && decide (x.grace ≠ 0) && decide (x.graceAt ≤ s.now) && !x.acked then s.escalate src.val b else s)

/-! ## Acknowledgement and clearing (R397, R406) -/

/-- FLT_ACK takes a value (R397). -/
def State.fltAck (s : State) (v : Word) : State :=
  let n := v.toNat % 256
  if srcReserved n then s else s.setSrc n { s.src n with acked := true, grace := 0, graceAt := 0 }

/-- FLT_ACK (R397). -/
def execFltAck (v : Word) (s : State) : Host.Outcome State Fault Refusal := .next (s.onBar4 (·.fltAck v))

/-- FLT_FIRST_SRC takes a value: writing 1 to VALID clears the whole capture (R400, R406). -/
def State.firstClear (s : State) (v : Word) : State :=
  if v.getLsbD 31 then
    { s with flt := { s.flt with firstValid := false, firstSelf := false, firstEsc := false, firstSev := 0
                                 firstUnit := 0, firstSrc := 0, firstTick := 0 } }
  else s

/-- FLT_FIRST_SRC_CLEAR (R400, R406). -/
def execFltFirstSrcClear (v : Word) (s : State) : Host.Outcome State Fault Refusal := .next (s.onBar4 (·.firstClear v))

/-! ## Quiet exits (R398, R399, R401) -/

/-- Another source, or a source of this one's own kind, holds a unit out. -/
def State.heldElse (s : State) (n : Nat) (u : UnitClass × Nat) : Bool :=
  s.flt.srcs.any (fun e => e.1 != n && e.2.out.contains u)

/-- Return a unit that a source took out, through an engine reset (R116). -/
def State.unitBack (s : State) (u : UnitClass × Nat) : State :=
  let s1 := s.unitReset u.1 u.2
  let k := s1.cell u.1 u.2
  s1.setCell u.1 u.2 { k with outFault := false, inService := !k.outAdmin }

/-- The units and the region of a source return (R398): units that no other source holds, and a region that neither
Rind nor another source holds. -/
def State.unitsBack (s : State) (n : Nat) : State :=
  let x := s.src n
  let s1 := (x.out.filter (fun u => !s.heldElse n u)).foldl State.unitBack s
  let s2 := s1.setSrc n { s1.src n with out := [], regionOut := false }
  if n < 64 then s2
  else
    let r := srcRegion n
    let y := s2.region r
    if (!y.inService || x.regionOut) && s2.mp.katDone && s2.hbm.groups.getLsbD r && !y.quarantine && !y.failed
        && !s2.rindHolds r && !s2.sourceHolds r && !s2.regionDead r && !s2.reloads r
        && (s2.src (srcRegionOff r 42)).state == 0 then
      (s2.regionIn r).rehome
    else s2

/-- The exits of a source within WINDOW seconds of now. -/
def State.recentExits (s : State) (n : Nat) : List Nat :=
  (s.src n).exits.filter (fun t => decide (s.now < t + 1000000 * s.flt.recWindow))

/-- A source leaves ACTIVE (R398). -/
def State.quietExit (s : State) (n : Nat) : State :=
  let x := s.src n
  let s1 := s.setSrc n { x with state := 0, recov := satSucc x.recov, exits := s.recentExits n ++ [s.now] }
  ({ s1 with flt := { s1.flt with recovTotal := satSucc s1.flt.recovTotal } }.selfClear n).unitsBack n

/-- QUIET_EXPIRE (R398, R399): FLT_QUIET without an event and without the condition. An exit that would pass COUNT
within WINDOW makes the source STUCK instead. -/
def execQuietExpire (src : Fin 256) (s : State) : Host.Outcome State Fault Refusal :=
  let n := src.val
  let x := s.src n
  .next (
    if s.up && x.state == 1 && !x.present && decide (x.quietAt + 1000 * s.flt.quiet ≤ s.now) then
      if s.flt.recCount ≤ (s.recentExits n).length then s.setSrc n { x with state := 2 }
      else s.quietExit n
    else s)

end Sys2Proof.Machine
end

