-- ==== Sys2Proof/Machine/Power.lean ====
section
/-! DEFINITION. Power states (R423 to R430, R441), temperature, voltage and clocks (R436 to R440), and the storing of
OP_SEC (R411). -/

namespace Sys2Proof.Machine

/-! ## Entry (R426) -/

/-- Operand memory is off and loses its contents (R198, R423). -/
def State.loseOperand (s : State) : State :=
  s.setEng { s.eng with cells := tabMap {} (fun k => { k with dirty := 0, core := { k.core with rows := [] } }) s.eng.cells }

/-- What P4 loses: every buffer in SRAM, HBM with the cache and the key store, and the per-boot keys (R202, R215,
R423, R428). -/
def State.loseP4 (s : State) : State :=
  let s0 := (s.pulpEmpty.keepSram (fun _ _ => false)).loseOperand
  let s1 := { s0 with
    hbm := { s.hbm.noKeys with fillDone := false, sealCount := 0, sealed := [] }
    fns := tabMap {} (fun (r : FnRec) => { r with rngw := { r.rngw with buf := [] }, mb := { r.mb with buf := [] } })
      s.pulpEmpty.fns }
  s1.setVlt { s1.vlt with blobs := [], ksKey := false, vek := false, aliasKeys := false }

/-- POWER_STATE_ENTER (R425, R426, R429): the next deeper state that the target reaches, after its idle time. -/
def execPowerStateEnter (s : State) : Host.Outcome State Fault Refusal :=
  let nx := if s.pwr.state = 0 then 2 else s.pwr.state + 1
  .next (
    if s.up && !s.scrapped && !s.pwr.exiting && decide (nx ≤ 4) && decide (nx ≤ s.target) && s.idle
        && decide (s.pwr.idleSince + s.pwr.idleTime nx ≤ s.now) then
      let s0 := if nx = 2 then s.clockGens else s
      let s1 := { s0 with pwr := { s0.pwr.stay s0.pwr.state (s0.now - s0.pwr.enteredAt) with state := nx, enteredAt := s0.now } }
      let s2 := if nx = 3 then
          ((s1.pulpDropTier true).keepSram (fun a _ => areaKeptP3 a)).loseOperand
        else if nx = 4 then { s1.loseP4 with rnd := { s1.rnd with supply := 1, lostAt := s1.rnd.us } }
        else s1
      s2.sendLtr nx
    else s)

/-! ## Exit (R427, R428) -/

/-- The event named is one that R427 lets start an exit. -/
def State.wakes (s : State) : WakeCause → Bool
  | .doorbell => s.qm.qps.any (fun e => e.2.valid && e.2.sqTail != e.2.sqHead)
  | .tolerance => decide (s.target < s.pwr.state)
  | .action => decide (2 ≤ s.rnd.level)
  | .mailboxEngines | .regionOp => true

/-- POWER_WAKE (R427, R441): an exit from P2 or P3 begins. -/
def execPowerWake (cause : WakeCause) (s : State) : Host.Outcome State Fault Refusal :=
  .next (
    if s.up && (s.pwr.state == 2 || s.pwr.state == 3) && s.wakes cause then { s with pwr := { s.pwr with exiting := true } } else s)

/-- A region comes back from P4 with the active bundle's images; units that were in service are tested (R428 steps 4
and 7). -/
def State.p4Region (s : State) (fails : List (UnitClass × Nat)) (r : Nat) : State :=
  let x := s.region r
  let s1 := s.loadRegion r
  let mine := fails.filter (fun u => unitRegion u.1 u.2 == r && (s.cell u.1 u.2).inService)
  let s2 := s1.outAdmin mine
  s2.setRegion r { s2.region r with inService := x.inService && !s2.regionDead r }

/-- P4_WAKE (R202, R289, R323, R344, R428): the contents of an exit from P4, with what it meets outside the logic. `us`
is the residence up to the end of the exit, measured on AON_CLK. LAST_CAUSE has no code for this start, so it is a
free value. -/
def execP4Wake (us : Nat) (b : BootIn) (s : State) : Host.Outcome State Fault Refusal :=
  .next (
    if !(s.up && s.pwr.state == 4 && !s.pwr.exiting) then s
    else
      let s1 := { s with
        orc := { s.orc with tick := s.orc.tick + us }
        pwr := { s.pwr.stay 4 us with exiting := true }
        rnd := { s.rnd with supply := 0, lostAt := s.rnd.us }
        fns := tabMap {} (fun r => { r with share := r.share.creditOver us }) s.fns
        rng := { reseeds := s.rng.reseeds }
        eng := { s.eng with gens := tabMap {} (fun g => { reseeds := g.reseeds, hits := g.hits : Gen }) s.eng.gens }
        vlt := { s.vlt with unsealed := false, emptyInit := false } }
      let s2 := s1.startEntropy b.rngRuns b.rngKatOk
      let s2k := s2.drawHbmKeys
      let s3 := { s2k with hbm := { s2k.hbm with trained := s2k.nv.trim.isSome, fillDone := s2k.nv.trim.isSome } }.drawKsKey s2k.rng.ready
      let s4 := if s3.highAlarm then s3 else s3.unseal false b.headerOk b.torn
      let s5 := (s4.fwStop 0 false).draw 1
      let s6 := { s5 with mp := { s5.mp with restart := none } }.startFw (Config.freeByte s4.free).toNat b.bankAOk b.bankBOk
        b.tableOk false
      let s7 := if s6.mp.running then (List.range 4).foldl (fun a r => a.p4Region b.katFail r) s6 else s6
      s7.refresh)

/-- POWER_EXIT_DONE (R134, R427 to R429): the engines are up, and the generators have reseeded. An exit from P4 ends with its BOOT record and returns the
flow-control credits. -/
def execPowerExitDone (s : State) : Host.Outcome State Fault Refusal :=
  .next (
    if !(s.up && s.pwr.exiting) then s
    else
      let s1 := if s.pwr.state = 4 then
          s.logWord 0x001 (3 + s.lcState * 256 + flag s.mp.activeB * 65536 + s.lcBits * 2 ^ 24) 1
        else ({ s with pwr := s.pwr.stay s.pwr.state (s.now - s.pwr.enteredAt) }).clockGens.reseedExit
      { s1 with pwr := { s1.pwr with state := 0, p1 := false, exiting := false, enteredAt := s1.now, idleSince := s1.now } }.sendLtr 0)

/-- FN_LAT_TOL takes a value (R29, R425). -/
def State.latTolWrite (s : State) (fn : Nat) (v : Word) : State :=
  (s.setPort fn { (s.fn fn).port with latTol := v.setWidth 16 }).noteTol

/-- FN_LAT_TOL_WRITE (R29, R425, R427, R429). -/
def execFnLatTolWrite (fn : Fin 1024) (v : Word) (s : State) : Host.Outcome State Fault Refusal :=
  .next (s.access fn.val 0x18 4 (·.latTolWrite fn.val v))

/-! ## Temperature (R436, R437) -/

/-- Readings of a region's sensor and of the spine's. -/
def State.sense (s : State) (r : Nat) (own spine : Byte) : State :=
  { s with pwr := { s.pwr with temps := (s.pwr.temps.set r own).set 4 spine } }

/-- The hotter of two readings. -/
def hotter (a b : Byte) : Int := max a.toInt b.toInt

/-- Some region is above throttle level 0. -/
def State.throttled (s : State) : Bool := s.orc.regions.any (fun x => x.thermal != 0)

/-- The power manager reads its sensors: the device runs and is not in P4. -/
def State.sensing (s : State) : Bool := s.up && s.pwr.state != 4 && !s.scrapped

/-- THROTTLE_RISE (R436): 1 ms at 100 °C or above. The sources are raised as their conditions begin. -/
def execThrottleRise (region : Fin 4) (own spine : Byte) (s : State) : Host.Outcome State Fault Refusal :=
  let r := region.val
  let x := s.region r
  .next (
    if s.sensing && decide (100 ≤ hotter own spine) && decide (x.thermal < 4) then
      let s1 := (s.sense r own spine).setRegion r { x with thermal := x.thermal + 1 }
      let s2 := if x.thermal = 0 then s1.raiseB {} (srcRegionOff r 44) 0xFF 0 true else s1
      if s.throttled then s2 else s2.raiseB {} 32 0xFF 0 true
    else s)

/-- THROTTLE_FALL (R401, R436): 10 ms at 98 °C or below. -/
def execThrottleFall (region : Fin 4) (own spine : Byte) (s : State) : Host.Outcome State Fault Refusal :=
  let r := region.val
  let x := s.region r
  .next (
    if s.sensing && decide (hotter own spine ≤ 98) && decide (0 < x.thermal) then
      let s1 := (s.sense r own spine).setRegion r { x with thermal := x.thermal - 1 }
      let s2 := if x.thermal = 1 then s1.presentEnds (srcRegionOff r 44) else s1
      if s2.throttled then s2 else s2.presentEnds 32
    else s)

/-- THERMAL_SHUTDOWN (R437): keys clear as at HALT_SECRET, and the main domain is held in reset with the link down. -/
def execThermalShutdown (sensor : Fin 5) (temp : Byte) (s : State) : Host.Outcome State Fault Refusal :=
  .next (
    if s.up && s.pwr.state != 4 && decide (115 ≤ temp.toInt) then
      let s1 := s.coldClear
      { s1 with pwr := { s1.pwr with held := true, shutFlag := true, temps := s1.pwr.temps.set sensor.val temp } }
    else s)

/-! ## Voltage and clocks (R438, R440) -/

/-- AVS_SAMPLE (R438): the monitors want no change, or a step of 5 mV up or down. -/
def execAvsSample (up : Bool) (want : Bool) (s : State) : Host.Outcome State Fault Refusal :=
  .next (
    if !s.sensing then s
    else if want && up && s.pwr.avs == 800 then
      if s.pwr.avsLimit then s
      else { s with pwr := { s.pwr with avsLimit := true } }.raiseB {} 35 0xFF 0 true
    else
      let v := if !want then s.pwr.avs else if up then s.pwr.avs + 5 else max 700 (s.pwr.avs - 5)
      { s with pwr := { s.pwr with avs := v, avsLimit := false } }.presentEnds 35)

/-- PLL_LOCK_LOSS (R440). -/
def execPllLockLoss (pll : Pll) (s : State) : Host.Outcome State Fault Refusal :=
  .next (
    if !s.sensing then s
    else match pll with
    | .root => if s.pwr.rootLock then { s with pwr := { s.pwr with rootLock := false } }.raise 34 0xFF 0 else s
    | .hbm0 => if s.pwr.hbm0Lock then { s with pwr := { s.pwr with hbm0Lock := false } }.raise 34 0xFF 0 else s
    | .hbm1 => if s.pwr.hbm1Lock then { s with pwr := { s.pwr with hbm1Lock := false } }.raise 34 0xFF 0 else s)

/-! ## OP_SEC (R411) -/

/-- OP_SEC_STORE (R411): every 60 s. -/
def execOpSecStore (s : State) : Host.Outcome State Fault Refusal :=
  .next (
    if s.pwr.main && decide (s.log.opStored + 60 ≤ s.log.opSec) then
      { s with log := { s.log with opStored := s.log.opSec } }
    else s)

end Sys2Proof.Machine
end

