-- ==== Sys2Proof/Machine/Spdm.lean ====
section
/-! DEFINITION. The SPDM responder on DOE and MCTP (R40, R307, R444), IDE_KM (R20, R38, R40) and DOE Discovery (R20). The
order in which a connection is made, and the numbers of messages and errors, are those of DSP0274 and of PCIe
(assumption 26). -/

namespace Sys2Proof.Machine

/-! ## Transports -/

/-- The target is on the bus: its domain is powered and the pins are not tri-stated by a pad loopback (R445, R458). -/
def State.onBus (s : State) : Bool := s.pwr.vaon && s.sb.lpbkDepth != 1

/-- MCTP messages reach the endpoint: power is good, the device is not in P4, and it has an address and an EID where
the message needs one (R442, R444, R445). -/
def State.mctpUp (s : State) : Bool := s.up && s.pwr.state != 4 && s.onBus && s.sb.daValid

/-- A message is received over MCTP. -/
def State.rxMctp (s : State) : State := { s with sb := { s.sb with rx := s.sb.rx + 1 } }

/-- An answer over MCTP: an in-band interrupt says that a read is pending, where the controller has enabled it (R442, R444). -/
def State.txMctp (s : State) (o : Out) : State :=
  let s1 := { s with sb := { s.sb with tx := s.sb.tx + 1 } }
  (if s1.sb.ibiEn then s1.emit (.ibi Config.ibiByte) else s1).emit o

/-- A private write in P4 is taken into the always-on buffer of 512 bytes, eight transmission units (R444, R445). -/
def State.holdWrite (s : State) (c : Instr) : State :=
  if s.up && s.pwr.state == 4 && s.onBus && s.sb.daValid && decide (s.sb.held.length < 8) then
    { s with sb := { s.sb with held := s.sb.held ++ [c] } }
  else s

/-- The first message of that buffer, to be served once the exit from P4 has ended (R445). -/
def State.heldNext (s : State) : Option (Instr × State) :=
  match s.sb.held with
  | [] => none
  | c :: l => if s.up && s.pwr.state != 4 then some (c, { s with sb := { s.sb with held := l } }) else none

/-- The responder answers on a transport: firmware runs, and MCTP serves SPDM neither in ALARMED mode nor in
SCRAPPED (R40, R444). -/
def State.spdmUp (s : State) (t : Transport) : Bool :=
  s.mp.running && (match t with
    | .doe => s.reaches 0
    | .mctp => s.mctpUp && s.sb.eidValid && !s.rnd.alarmed && !s.scrapped)

/-- Answer a request with a message code and data. -/
def State.spdmSay (s : State) (t : Transport) (code : Nat) (words : List QWord) : State :=
  match t with
  | .doe => s.emit (.spdm t code words)
  | .mctp => s.txMctp (.spdm t code words)

/-- ERROR with an error code. -/
def State.spdmErr (s : State) (t : Transport) (e : Nat) : State := s.spdmSay t 0x7F [BitVec.ofNat 64 e]

def errInvalid : Nat := 0x01
def errUnexpected : Nat := 0x04
def errDecrypt : Nat := 0x06
def errSessionLimit : Nat := 0x0A

/-- Take a request on a transport, if the responder answers there; `c` is the command that carries it. -/
def State.spdmTake (s : State) (t : Transport) (c : Instr) (k : State → State) : State :=
  if !s.spdmUp t then (if t = .mctp then s.holdWrite c else s)
  else match t with
    | .doe => k s
    | .mctp => k s.rxMctp

/-- A request that needs an agreed connection. -/
def State.spdmAgreed (s : State) (t : Transport) (c : Instr) (k : State → State) : State :=
  s.spdmTake t c fun s => if s.spdm.algs then k s else s.spdmErr t errUnexpected

/-- A request that needs the established session on its transport. -/
def State.spdmSecured (s : State) (t : Transport) (c : Instr) (k : State → State) : State :=
  s.spdmTake t c fun s => if s.spdm.session == some t && s.spdm.finished then k s else s.spdmErr t errUnexpected

/-! ## Requests -/

/-- SPDM_GET_VERSION: a connection starts anew. -/
def execSpdmGetVersion (t : Transport) (s : State) : Host.Outcome State Fault Refusal :=
  .next (s.spdmTake t (.spdmGetVersion t) fun s =>
    { s with spdm := { s.spdm with versioned := true, caps := false, algs := false, asym := false, hash := false, dhe := false
                                   aead := false } }.spdmSay t 0x04 [0x13])

/-- SPDM_GET_CAPABILITIES. -/
def execSpdmGetCapabilities (t : Transport) (s : State) : Host.Outcome State Fault Refusal :=
  .next (s.spdmTake t (.spdmGetCapabilities t) fun s =>
    if s.spdm.versioned then { s with spdm := { s.spdm with caps := true } }.spdmSay t 0x61 []
    else s.spdmErr t errUnexpected)

/-- SPDM_NEGOTIATE_ALGORITHMS: of the requester's offers the responder selects ECDSA P-384 for signatures, SHA-384, secp384r1 for
DHE and AES-256-GCM (R40). The offer says which of these the requester names; the connection is agreed when all are. The words
of the answer are the bits that DSP0274 gives the four algorithms, 0 where one is not selected (assumption 26). -/
def execSpdmNegotiateAlgorithms (o : AlgOffer) (s : State) : Host.Outcome State Fault Refusal :=
  .next (s.spdmTake o.t (.spdmNegotiateAlgorithms o) fun s =>
    if s.spdm.versioned && s.spdm.caps then
      { s with spdm := { s.spdm with
          algs := o.asym && o.hash && o.dhe && o.aead, asym := o.asym, hash := o.hash, dhe := o.dhe, aead := o.aead } }.spdmSay
        o.t 0x63 [BitVec.ofNat 64 (0x80 * flag o.asym), BitVec.ofNat 64 (0x2 * flag o.hash), BitVec.ofNat 64 (0x10 * flag o.dhe),
                  BitVec.ofNat 64 (0x2 * flag o.aead)]
    else s.spdmErr o.t errUnexpected)

/-- SPDM_GET_DIGESTS: slots 0 and 1 (R307). -/
def execSpdmGetDigests (t : Transport) (s : State) : Host.Outcome State Fault Refusal :=
  .next (s.spdmAgreed t (.spdmGetDigests t) fun s => s.spdmSay t 0x01 [0x3])

/-- SPDM_GET_CERTIFICATE: the chain of certificate slot 0 or 1 (R307). -/
def execSpdmGetCertificate (t : Transport) (slot : Nat) (s : State) : Host.Outcome State Fault Refusal :=
  .next (s.spdmAgreed t (.spdmGetCertificate t slot) fun s =>
    if slot < 2 then s.spdmSay t 0x02 [BitVec.ofNat 64 slot] else s.spdmErr t errInvalid)

/-- SPDM_CHALLENGE: an answer signed with the alias key. -/
def execSpdmChallenge (t : Transport) (slot : Nat) (s : State) : Host.Outcome State Fault Refusal :=
  .next (s.spdmAgreed t (.spdmChallenge t slot) fun s =>
    if slot < 2 && s.vlt.aliasKeys then s.spdmSay t 0x03 [BitVec.ofNat 64 slot] else s.spdmErr t errInvalid)

/-- The six words of the 48-byte digest at a draw. -/
def digestWords (d : Nat) : List QWord :=
  (List.range 6).map (fun k => BitVec.ofNat 64 ((freeBytes (d + 8 * k) 8).foldr (fun b a => b.toNat + 256 * a) 0))

/-- A measurement (R307): the digest of the boot ROM, the three digests of the active bank, the life-cycle state with
CUR_LEGACY and the lock of Rind (R374), and the microcode of the regions. -/
def State.measure (s : State) (index : Nat) : List QWord :=
  if index = 1 then (List.range 6).map (fun k => (Config.romDigest >>> (64 * k)).setWidth 64)
  else if within index 2 4 then digestWords (s.activeBank.dig + 48 * (index - 2))
  else if index = 5 then
    [BitVec.ofNat 64 s.lcState, s.eng.legacy.setWidth 64, BitVec.ofNat 64 (flag (decide (3 ≤ s.lcState))), s.nv.fuses.setWidth 64]
  else (List.range 4).map (fun r => BitVec.ofNat 64 ((s.region r).family + (s.region r).version.toNat * 65536))

/-- SPDM_GET_MEASUREMENTS: one of six, the number of them (0) or all (0xFF) (R307). -/
def execSpdmGetMeasurements (t : Transport) (index : Nat) (s : State) : Host.Outcome State Fault Refusal :=
  .next (s.spdmAgreed t (.spdmGetMeasurements t index) fun s =>
    if index = 0 then s.spdmSay t 0x60 [6]
    else if within index 1 6 then s.spdmSay t 0x60 (s.measure index)
    else if index = 0xFF then s.spdmSay t 0x60 ([1, 2, 3, 4, 5, 6].flatMap s.measure)
    else s.spdmErr t errInvalid)

/-- SPDM_KEY_EXCHANGE: the one secured session (R40, R444). -/
def execSpdmKeyExchange (t : Transport) (s : State) : Host.Outcome State Fault Refusal :=
  .next (s.spdmAgreed t (.spdmKeyExchange t) fun s =>
    match s.spdm.session with
    | some _ => s.spdmErr t errSessionLimit
    | none => { s with spdm := { s.spdm with session := some t, finished := false, keyGen := 0 } }.spdmSay t 0x64 [])

/-- SPDM_FINISH: `macOk` says that the requester's MAC verifies; one that does not ends the handshake. -/
def execSpdmFinish (t : Transport) (macOk : Bool) (s : State) : Host.Outcome State Fault Refusal :=
  .next (s.spdmTake t (.spdmFinish t macOk) fun s =>
    if s.spdm.session == some t && !s.spdm.finished then
      if macOk then { s with spdm := { s.spdm with finished := true } }.spdmSay t 0x65 []
      else { s with spdm := { s.spdm with session := none } }.spdmErr t errDecrypt
    else s.spdmErr t errUnexpected)

/-- SPDM_KEY_UPDATE. -/
def execSpdmKeyUpdate (t : Transport) (s : State) : Host.Outcome State Fault Refusal :=
  .next (s.spdmSecured t (.spdmKeyUpdate t) fun s => { s with spdm := { s.spdm with keyGen := s.spdm.keyGen + 1 } }.spdmSay t 0x69 [])

/-- SPDM_HEARTBEAT. -/
def execSpdmHeartbeat (t : Transport) (s : State) : Host.Outcome State Fault Refusal :=
  .next (s.spdmSecured t (.spdmHeartbeat t) fun s => s.spdmSay t 0x68 [])

/-- SPDM_END_SESSION. -/
def execSpdmEndSession (t : Transport) (s : State) : Host.Outcome State Fault Refusal :=
  .next (s.spdmSecured t (.spdmEndSession t) fun s =>
    { s with spdm := { s.spdm with session := none, finished := false, keyGen := 0 } }.spdmSay t 0x6C [])

/-! ## IDE_KM (R20, R30, R38, R40) -/

/-- The stream goes Secure: the functions it covers read IDE_SECURE, and what comes on it is taken again (R38). -/
def State.streamOn (s : State) (stream : Fin 9) (fns : List (Fin 1024)) : State :=
  if stream.val = 8 then { s with hif := { s.hif with linkSecure := true, linkBroken := false } }
  else
    fns.foldl (fun a f => a.setPort f.val { (a.fn f.val).port with ideSecure := true, ideBroken := false })
      { s with hif := { s.hif with selSecure := s.hif.selSecure ||| BitVec.ofNat 8 (2 ^ stream.val) } }

/-- IDE_KM_MESSAGE: over the secured session on DOE, a stream is keyed, set going or stopped. -/
def execIdeKmMessage (op : IdeKm) (stream : Fin 9) (fns : List (Fin 1024)) (s : State) :
    Host.Outcome State Fault Refusal :=
  .next (s.spdmSecured .doe (.ideKmMessage op stream fns) fun s =>
    match op with
    | .keyProg =>
      { s with hif := { s.hif with keyed := s.hif.keyed ||| BitVec.ofNat 9 (2 ^ stream.val) } }.spdmSay .doe 0x103 []
    | .setGo =>
      if s.hif.keyed.getLsbD stream.val then (s.streamOn stream fns).spdmSay .doe 0x106 []
      else s.spdmErr .doe errInvalid
    | .setStop => (s.streamOff stream fns).spdmSay .doe 0x106 [])

/-! ## DOE Discovery (R20) -/

/-- DOE_DISCOVERY: the protocols are Discovery, CMA/SPDM and Secured CMA/SPDM, under the PCI-SIG vendor ID. -/
def execDoeDiscovery (index : Nat) (s : State) : Host.Outcome State Fault Refusal :=
  .next (
    if s.reaches 0 then s.emit (.doe (if index < 3 then [0x0001, index, (index + 1) % 3] else [0xFFFF, 0, 0])) else s)

end Sys2Proof.Machine
end

