-- ==== Sys2Proof/Machine/Sideband.lean ====
section
/-! DEFINITION. The sideband: the I3C target (R442, R443, R445), the MCTP endpoint (R444) and their loopback (R458). -/

namespace Sys2Proof.Machine

/-! ## The I3C target -/

/-- A direct CCC reaches the target through its dynamic address. -/
def State.ccc (s : State) (k : State → State) : State := if s.onBus && s.sb.daValid then k s else s

/-- An answer on the bus. -/
def State.i3cSay (s : State) (l : List Nat) : State := s.emit (.i3c l)

/-- The low bits of the provisioned ID (R443). -/
def State.instanceId (s : State) : BitVec 16 := if s.nv.sbInstanceSet then s.nv.sbInstance else Config.deviceId.setWidth 16

/-- The provisioned ID (R443). -/
def State.provId (s : State) : BitVec 48 :=
  BitVec.ofNat 48 (Config.mipiId.toNat * 2 ^ 33 + 0x9640 * 2 ^ 16 + s.instanceId.toNat)

/-- The bytes of a number, most significant first. -/
def beBytes (n v : Nat) : List Nat := ((leBytes n v).map (·.toNat)).reverse

/-- ENTDAA: a target without a dynamic address takes one. -/
def execEntdaa (da : BitVec 7) (s : State) : Host.Outcome State Fault Refusal :=
  .next (
    if s.onBus && !s.sb.daValid then
      { s with sb := { s.sb with daValid := true, da := da } }.i3cSay (beBytes 6 s.provId.toNat ++ [0x06, 0x00])
    else s)

/-- RSTDAA (R445). -/
def execRstdaa (s : State) : Host.Outcome State Fault Refusal :=
  .next (if s.onBus then { s with sb := { s.sb with daValid := false, da := 0 } } else s)

/-- ENEC: bit 0 enables in-band interrupts and bit 3 Hot-Join. -/
def execEnec (bits : BitVec 8) (s : State) : Host.Outcome State Fault Refusal :=
  .next (
    if s.onBus then
      { s with sb := { s.sb with ibiEn := s.sb.ibiEn || bits.getLsbD 0, hjEn := s.sb.hjEn || bits.getLsbD 3 } }
    else s)

/-- DISEC: the same bits disable. -/
def execDisec (bits : BitVec 8) (s : State) : Host.Outcome State Fault Refusal :=
  .next (
    if s.onBus then
      { s with sb := { s.sb with ibiEn := s.sb.ibiEn && !bits.getLsbD 0, hjEn := s.sb.hjEn && !bits.getLsbD 3 } }
    else s)

/-- GETPID (R443). -/
def execGetpid (s : State) : Host.Outcome State Fault Refusal :=
  .next (s.ccc fun s => s.i3cSay (beBytes 6 s.provId.toNat))

/-- GETBCR (R442). -/
def execGetbcr (s : State) : Host.Outcome State Fault Refusal := .next (s.ccc fun s => s.i3cSay [0x06])

/-- GETDCR (R442). -/
def execGetdcr (s : State) : Host.Outcome State Fault Refusal := .next (s.ccc fun s => s.i3cSay [0x00])

/-- GETMWL (R442, R458): the length in SB_MWL_MRL. -/
def execGetmwl (s : State) : Host.Outcome State Fault Refusal := .next (s.ccc fun s => s.i3cSay (beBytes 2 s.sb.mwl.toNat))

/-- GETMRL (R442, R458). -/
def execGetmrl (s : State) : Host.Outcome State Fault Refusal := .next (s.ccc fun s => s.i3cSay (beBytes 2 s.sb.mrl.toNat))

/-- SETMWL (R442): 69 to 256, anything else is not accepted. -/
def execSetmwl (n : BitVec 16) (s : State) : Host.Outcome State Fault Refusal :=
  .next (s.ccc fun s => if within n.toNat 69 256 then { s with sb := { s.sb with mwl := n } } else s.emit .i3cNack)

/-- SETMRL (R442). -/
def execSetmrl (n : BitVec 16) (s : State) : Host.Outcome State Fault Refusal :=
  .next (s.ccc fun s => if within n.toNat 69 256 then { s with sb := { s.sb with mrl := n } } else s.emit .i3cNack)

/-- GETSTATUS (R442): the spec does not state the two bytes, so they are free values. -/
def execGetstatus (s : State) : Host.Outcome State Fault Refusal :=
  .next (s.ccc fun s => (s.i3cSay ((freeBytes s.free 2).map (·.toNat))).draw 2)

/-- RSTACT (R445): the reset of the target clears its address, EID and enables. -/
def execRstact (s : State) : Host.Outcome State Fault Refusal :=
  .next (
    if s.onBus then
      { s with sb := { s.sb with daValid := false, da := 0, eidValid := false, eid := 0, ibiEn := false, hjEn := false } }
    else s)

/-- CCC_UNSUPPORTED (R442). -/
def execCccUnsupported (_code : Byte) (s : State) : Host.Outcome State Fault Refusal :=
  .next (if s.onBus then s.emit .i3cNack else s)

/-- HOT_JOIN (R442): the request on the bus, at the reserved Hot-Join address. -/
def execHotJoin (s : State) : Host.Outcome State Fault Refusal :=
  .next (if s.onBus && !s.sb.daValid && s.sb.hjEn then s.i3cSay [0x02] else s)

/-! ## The MCTP endpoint (R444) -/

/-- A control message, which command `c` carries, and its answer; in P4 it is held (R445). -/
def State.mctpControl (s : State) (c : Instr) (k : State → State) : State := if s.mctpUp then k s.rxMctp else s.holdWrite c

def State.mctpSay (s : State) (l : List Nat) : State := s.txMctp (.mctp l)

/-- SET_ENDPOINT_ID (R444, R445): 0 clears the EID, and 0xFF is no EID. -/
def execSetEndpointId (eid : Byte) (s : State) : Host.Outcome State Fault Refusal :=
  .next (s.mctpControl (.setEndpointId eid) fun s =>
    if eid = 0xFF then s.mctpSay [0x02]
    else { s with sb := { s.sb with eidValid := eid != 0, eid := eid } }.mctpSay [0x00, 0x00, eid.toNat, 0x00])

/-- GET_ENDPOINT_ID. -/
def execGetEndpointId (s : State) : Host.Outcome State Fault Refusal :=
  .next (s.mctpControl .getEndpointId fun s => s.mctpSay [0x00, s.sb.eid.toNat, 0x00, 0x00])

/-- GET_MCTP_VERSION_SUPPORT: the spec names no version, so the entry is a free value. -/
def execGetMctpVersionSupport (s : State) : Host.Outcome State Fault Refusal :=
  .next (s.mctpControl .getMctpVersionSupport fun s => (s.mctpSay ([0x00, 0x01] ++ (freeBytes s.free 4).map (·.toNat))).draw 4)

/-- GET_MESSAGE_TYPE_SUPPORT: the types of R444 besides control. -/
def execGetMessageTypeSupport (s : State) : Host.Outcome State Fault Refusal :=
  .next (s.mctpControl .getMessageTypeSupport fun s => s.mctpSay [0x00, 0x03, 0x05, 0x06, 0x7E])

/-- GET_ENDPOINT_UUID. -/
def execGetEndpointUuid (s : State) : Host.Outcome State Fault Refusal :=
  .next (s.mctpControl .getEndpointUuid fun s => s.mctpSay (0x00 :: beBytes 16 Config.uuid.toNat))

/-- A message type that the endpoint serves now (R444). -/
def State.servesType (s : State) (typ : Byte) : Bool :=
  typ == 0x00 || ((typ == 0x05 || typ == 0x06) && !s.scrapped && !s.rnd.alarmed) || (typ == 0x7E && !s.scrapped)

/-- MCTP_TYPE_DROPPED (R444): received and dropped. -/
def execMctpTypeDropped (typ : Byte) (s : State) : Host.Outcome State Fault Refusal :=
  .next (if !s.mctpUp then s.holdWrite (.mctpTypeDropped typ) else if s.servesType typ then s else s.rxMctp)

/-! ## Loopback (R458) -/

/-- SB_LPBK_CTRL takes a value: a depth other than 0 is accepted under the condition of R41. -/
def State.sbLpbk (s : State) (depth errors : Nat) : State :=
  if depth ≠ 0 ∧ !s.noneReady then s
  else
    ({ s with sb := { s.sb with lpbkDepth := BitVec.ofNat 3 depth, lpbkErr := satAdd s.sb.lpbkErr errors } }).refresh

/-- SB_LPBK_OFF. -/
def execSbLpbkOff (s : State) : Host.Outcome State Fault Refusal := .next (s.onBar4 (·.sbLpbk 0 0))

/-- SB_LPBK_PAD; `errors` are the errors counted. -/
def execSbLpbkPad (errors : Nat) (s : State) : Host.Outcome State Fault Refusal := .next (s.onBar4 (·.sbLpbk 1 errors))

/-- SB_LPBK_PROTOCOL. -/
def execSbLpbkProtocol (errors : Nat) (s : State) : Host.Outcome State Fault Refusal := .next (s.onBar4 (·.sbLpbk 2 errors))

end Sys2Proof.Machine
end

