-- ==== Sys2Proof/Machine/Jtag.lean ====
section
/-! DEFINITION. The test access port (R354, R363 to R366, R469 to R471). -/

namespace Sys2Proof.Machine

/-- Load an instruction; a SCRAPPED device decodes all but IDCODE as BYPASS (R354). -/
def State.loadIr (s : State) (code : Byte) : State :=
  { s with tap := { s.tap with ir := if s.scrapped && code != 0x01 then 0xFF else code } }

/-- An instruction that a state bars decodes as BYPASS. -/
def State.bypassed (s : State) : State := { s with tap := { s.tap with ir := 0xFF } }.emit (.tdo 1 0)

/-- EXTEST and its kin hold the main domain in reset as at PERST_N assertion (R471). -/
def State.extestHold (s : State) (code : Byte) : State :=
  if !s.pwr.main then s
  else if s.scrapped then s.bypassed
  else
    let s1 := s.loadIr code
    if s1.pwr.extest then s1
    else
      let s2 := s1.coldClear
      { s2 with pwr := { s2.pwr with extest := true } }

/-- EXTEST (R470, R471). -/
def execExtest (s : State) : Host.Outcome State Fault Refusal := .next (s.extestHold 0x00)

/-- EXTEST_PULSE (R470, R471). -/
def execExtestPulse (s : State) : Host.Outcome State Fault Refusal := .next (s.extestHold 0x03)

/-- EXTEST_TRAIN (R470, R471). -/
def execExtestTrain (s : State) : Host.Outcome State Fault Refusal := .next (s.extestHold 0x04)

/-- The identification register (R469). -/
def idcodeWord : BitVec 128 := BitVec.ofNat 128 (0xB * 2 ^ 28 + 0x9640 * 2 ^ 12 + Config.jedecId.toNat * 2 + 1)

/-- IDCODE (R469). -/
def execIdcode (s : State) : Host.Outcome State Fault Refusal :=
  .next (if s.pwr.main then (s.loadIr 0x01).emit (.tdo 32 idcodeWord) else s)

/-- SAMPLE_PRELOAD (R470, R471): the boundary register is loaded, and operation is not disturbed. -/
def execSamplePreload (v : List Bool) (s : State) : Host.Outcome State Fault Refusal :=
  .next (
    if !s.pwr.main then s
    else if s.scrapped then s.bypassed
    else
      let s1 := s.loadIr 0x02
      { s1 with tap := { s1.tap with boundary := v } })

/-- BYPASS (R470): the one-bit register; every unlisted or barred code. -/
def execBypass (_code : Byte) (s : State) : Host.Outcome State Fault Refusal :=
  .next (if s.pwr.main then s.bypassed else s)

/-- LC_TOKEN (R363, R470, R471): a token shifted in whole reaches the token buffer. -/
def execLcToken (tok : Token) (whole : Bool) (s : State) : Host.Outcome State Fault Refusal :=
  .next (
    if !s.pwr.main then s
    else if s.scrapped then s.bypassed
    else
      let s1 := s.loadIr 0x10
      if whole then { s1 with lc := { s1.lc with token := some tok } } else s1)

/-- LC_NONCE_RD (R361, R470). -/
def execLcNonceRd (s : State) : Host.Outcome State Fault Refusal :=
  .next (
    if !s.pwr.main then s
    else if s.scrapped then s.bypassed
    else (s.loadIr 0x11).emit (.tdo 128 s.lc.nonce))

/-! ## Debug and memory test (R363 to R366) -/

/-- A word that the port reads: what the port wrote there, or a free value. -/
def State.portRead (s : State) (key : Nat) : State :=
  match s.tap.mem.find? (fun e => e.1 == key) with
  | some e => s.emit (.tdo 64 (e.2.setWidth 128))
  | none => (s.emit (.tdo 64 ((Config.freeKey s.free).setWidth 64 |>.setWidth 128))).draw 1

def State.portWrite (s : State) (key : Nat) (v : QWord) : State :=
  { s with tap := { s.tap with mem := Tab.ins key v (Tab.drop s.tap.mem key) } }

/-- One access of the port to a place; one with no path reads 0 and writes nothing. -/
def State.portAccess (s : State) (p : PortPlace) (path wr : Bool) (data : QWord) : State :=
  if wr then (if path then s.portWrite (portKey p) data else s)
  else if path then s.portRead (portKey p) else s.emit (.tdo 64 0)

/-- The debug port's path (R363, R365): the cores, and every SRAM area but vault working memory. -/
def portDebugged : PortPlace → Bool
  | .core _ => true
  | .sram a w => a != .vault && decide (w < areaWords a)
  | _ => false

/-- The paths of the memory test modes (R138, R366): SRAM, MRAM and the HBM wrappers, with the protected places outside RETURNED. -/
def portTested (lc : Nat) : PortPlace → Bool
  | .sram a w => decide (w < areaWords a)
  | .mram _ | .wrapper _ => true
  | .protected_ _ => lc != 4
  | .core _ | .keys _ => false

/-- DEBUG_PORT (R363 to R365): in a debug-open boot. -/
def execDebugPort (code : Byte) (place : PortPlace) (wr : Bool) (data : QWord) (s : State) : Host.Outcome State Fault Refusal :=
  .next (
    if !s.pwr.main || !(within code.toNat 0x40 0x5F) then s
    else if s.up && s.lc.debugOpen && s.lcState != 3 && !s.scrapped then (s.loadIr code).portAccess place (portDebugged place) wr data
    else s.bypassed)

/-- MEMORY_TEST (R366): while TEST_MODES is 1. -/
def execMemoryTest (code : Byte) (place : PortPlace) (wr : Bool) (data : QWord) (s : State) : Host.Outcome State Fault Refusal :=
  .next (
    if !s.pwr.main || !(within code.toNat 0x60 0x6F) then s
    else if s.up && s.lc.testModes && !s.scrapped then (s.loadIr code).portAccess place (portTested s.lcState place) wr data
    else s.bypassed)

/-- TAP_RESET (R469, R471): IDCODE is selected. -/
def execTapReset (s : State) : Host.Outcome State Fault Refusal :=
  .next { s with tap := { s.tap with ir := 0x01 } }

end Sys2Proof.Machine
end

