-- ==== Sys2Proof/Machine/RegRead.lean ====
section
/-! DEFINITION. What every register reads as: BAR0 (R27), BAR2 (R48) and the windows of BAR4 (R32), each a function of
the state. Offsets not listed read 0 (R27, R42). What a read does besides is in Register.lean. -/

namespace Sys2Proof.Machine

/-- The low or the high half of a 64-bit value. -/
def loWord (v : Nat) : Word := BitVec.ofNat 32 v
def hiWord (v : Nat) : Word := BitVec.ofNat 32 (v / 2 ^ 32)

/-- A flag list as a register, the first flag at bit 0. -/
def bitList (l : List Bool) : Word := BitVec.ofNat 32 (l.foldr (fun b n => flag b + 2 * n) 0)

/-- The word at index `i` of a wide value. -/
def wordAt (v i : Nat) : Word := BitVec.ofNat 32 (v / 2 ^ (32 * i))

/-! ## BAR0 -/

/-- FN_STATUS (R30). -/
def State.fnStatus (s : State) (f : Nat) : Word :=
  let r := s.fn f
  fieldAt (s.waitCause f r) 8 ||| flagAt s.rnd.alarmed 7 ||| flagAt r.port.flrBusy 6
    ||| flagAt (r.port.ideSecure || s.hif.linkSecure) 5
    ||| flagAt (s.hif.linkUp && !(s.hif.rate == 4 && s.hif.width == 16)) 4
    ||| flagAt (r.ten.st != .notCreated) 1 ||| flagAt r.port.ready 0

/-- FN_REV (R29): the firmware fields are filled when firmware loads. -/
def State.fnRev (s : State) : Word :=
  let b := s.activeBank
  if s.mp.running then fieldAt 0xB0 24 ||| fieldAt b.major 16 ||| fieldAt b.minor 8 ||| fieldAt b.patch 0
  else fieldAt 0xB0 24

/-- An account in whole charged µs, saturating (R111). -/
def accLevel (a : Int) : Word := BitVec.ofInt 32 (max (-2147483648) (min 2147483647 (a / 1000000)))

/-- FN_SHARE_STATE (R112). -/
def Share.stateWord (h : Share) : Word :=
  flagAt (decide (h.commitAcc ≤ 0)) 31 ||| flagAt (h.cfg.ceiling != 4294967295 && decide (h.ceilAcc < 0)) 30
    ||| flagAt (h.backlog == h.cfg.backlog) 29 ||| fieldAt h.cfg.burst 0

/-- The registers of R111 in their order; all 0 while the tenant does not exist. -/
def FnRec.shareWords (r : FnRec) : List Word :=
  if r.ten.st = .notCreated then [0, 0, 0, 0, 0, 0, 0]
  else
    let h := r.share
    [fieldAt h.cfg.weight 0, fieldAt h.cfg.commit 0, fieldAt h.cfg.ceiling 0, fieldAt h.cfg.backlog 16 ||| fieldAt h.backlog 0,
     h.stateWord, accLevel h.commitAcc, if h.cfg.ceiling = 4294967295 then 0x7FFFFFFF else accLevel h.ceilAcc]

/-- PLP_TEN_ONCHIP and PLP_TEN_HBM of a tenant (R217, R218). -/
def State.pulpOnWord (s : State) (t : Nat) : Word :=
  fieldAt (pulpUse s.pulp.entries t true) 16 ||| fieldAt (s.fn t).ten.pulpOn 0
def State.pulpHbmWord (s : State) (t : Nat) : Word :=
  fieldAt (ceilDiv (pulpUse s.pulp.entries t false) 1024) 16 ||| fieldAt (s.fn t).ten.pulpHbm 0

/-- Function control and status, at offsets below 0x1000 (R29, R111, R218). -/
def State.regFn (s : State) (f off : Nat) : Word :=
  let r := s.fn f
  let p := r.port
  match off with
  | 0x000 => flagAt (f == 0) 23 ||| fieldAt f 0
  | 0x004 => s.fnStatus f
  | 0x008 => fieldAt p.evtVec.toNat 4 ||| flagAt p.evtEn 1 ||| flagAt p.fetchStop 0
  | 0x00C => fieldAt p.events.toNat 0
  | 0x010 => fieldAt r.ten.qpLimit 0
  | 0x014 => fieldAt r.ten.msix 0
  | 0x018 => fieldAt p.latTol.toNat 0
  | 0x01C => p.dbDrops
  | 0x020 => s.fnRev
  | 0x120 => r.share.shaped
  | 0x124 => r.share.quota
  | 0x128 => r.share.overload
  | 0x140 => s.pulpOnWord f
  | 0x144 => s.pulpHbmWord f
  | 0x148 => r.pulp.hitsOn + r.pulp.hitsHbm
  | 0x14C => r.pulp.misses
  | _ => if 0x100 ≤ off ∧ off ≤ 0x118 then r.shareWords.getD ((off - 0x100) / 4) 0 else 0

/-- Mailboxes are served: in ALARMED mode and by the loader the PF's alone (R333, R341, R344). -/
def State.serves (s : State) (f : Nat) : Bool :=
  s.mp.service && (f == 0 || (!s.rnd.alarmed && !s.mp.loader))

/-- The mailbox (R332, R333). -/
def State.regMb (s : State) (f off : Nat) : Word :=
  let m := (s.fn f).mb
  if off = 0x1000 then fieldAt m.vec.toNat 4 ||| flagAt m.ien 1
  else if off = 0x1004 then
    flagAt m.busy 31 ||| flagAt m.done 30 ||| flagAt (s.serves f) 29 ||| fieldAt (s.mp.epoch % 65536) 0
  else if 0x1100 ≤ off then BitVec.ofNat 32 (m.buf.leNat (off - 0x1100) 4)
  else 0

/-- RNG_STATUS and RNG_UNDERRUNS (R324, R325). -/
def State.regRngWin (s : State) (f off : Nat) : Word :=
  let w := (s.fn f).rngw
  if off = 0x2008 then
    flagAt w.underrun 31 ||| flagAt w.buf.isEmpty 30 ||| flagAt s.rng.drbgFailed 29
      ||| flagAt (!s.rng.ready || s.rng.rawEn || s.rnd.alarmed || (s.fn f).port.flrBusy) 28 ||| fieldAt w.buf.length 0
  else if off = 0x200C then w.underruns
  else 0

/-- A source is STUCK (R398). -/
def State.anyStuck (s : State) : Bool := s.flt.srcs.any (fun e => e.2.state == 2)

/-- The fault summary of the PF (R404). -/
def State.regSum (s : State) (off : Nat) : Word :=
  if off = 0x4000 then
    flagAt s.flt.firstValid 31 ||| flagAt s.notifyPending 30 ||| fieldAt s.rnd.level 27 ||| flagAt s.anyStuck 26
      ||| fieldAt s.flt.firstSrc 0
  else if off = 0x4004 then fieldAt s.flt.sumVec.toNat 4 ||| flagAt s.flt.sumIen 0
  else if off = 0x4008 then fieldAt s.flt.sumEvents.toNat 0
  else 0

/-- A dword of a vector's MSI-X table entry, in the PCIe layout (R27; assumption 11). -/
def MsixVec.dword (e : MsixVec) (i : Nat) : Word :=
  if i = 0 then loWord e.addr.toNat else if i = 1 then hiWord e.addr.toNat else if i = 2 then e.data else flagAt e.mask 0

/-- 32 bits of the PBA, from vector `v` on. -/
def FnRec.pbaWord (r : FnRec) (v : Nat) : Word := bitList ((List.range 32).map (fun i => (r.vec (v + i)).pba))

/-- Offsets of the MSI-X table in BAR0 of a function (R27). -/
def FnRec.inTable (r : FnRec) (off : Nat) : Bool := decide (0x8000 ≤ off) && decide (off < 0x8000 + 16 * r.ten.msix)

/-- BAR0 of a function (R27). -/
def State.reg0 (s : State) (f off : Nat) : Word :=
  let r := s.fn f
  if off < 0x1000 then s.regFn f off
  else if off < 0x2000 then s.regMb f off
  else if off < 0x3000 then s.regRngWin f off
  else if f = 0 ∧ 0x4000 ≤ off ∧ off < 0x5000 then s.regSum off
  else if r.inTable off then (r.vec ((off - 0x8000) / 16)).dword (off % 16 / 4)
  else if f ≠ 0 ∧ (off = 0xC000 ∨ off = 0xC004) then r.pbaWord (8 * (off - 0xC000))
  else 0

/-! ## BAR2 -/

/-- QP_STATUS (R49). -/
def State.qpStatus (s : State) (f q : Nat) : Word :=
  let p := s.qp f q
  flagAt (p.errCause != 0) 31 ||| fieldAt p.errCause 28 ||| flagAt (s.fetchHeld f) 27 ||| fieldAt p.outstanding 0

/-- BAR2 of a function (R48). -/
def State.reg2 (s : State) (f off : Nat) : Word :=
  let p := s.qp f (off / 16)
  if !p.valid then 0
  else if off % 16 = 0 then fieldAt p.sqHead 0
  else if off % 16 = 4 then fieldAt p.cqTail 0
  else if off % 16 = 12 then s.qpStatus f (off / 16)
  else 0

/-! ## BAR4: HIF_ and QM_ -/

/-- HIF_ (R42). -/
def State.regHif (s : State) (off : Nat) : Word :=
  let h := s.hif
  match off with
  | 0x000 => flagAt h.linkUp 31 ||| flagAt h.flit 30 ||| fieldAt h.rate.toNat 20 ||| fieldAt h.width.toNat 0
  | 0x010 => flagAt h.ideRequire 0
  | 0x014 => flagAt h.linkSecure 8 ||| fieldAt h.selSecure.toNat 0
  | 0x100 => fieldAt h.lpbkLane.toNat 16 ||| fieldAt h.lpbkDepth.toNat 0
  | 0x104 => h.lpbkErr
  | 0x108 => loWord h.lpbkAddr.toNat
  | 0x10C => hiWord h.lpbkAddr.toNat
  | _ => 0

/-- The function and local index of the queue pair that QM_QP_SEL names. -/
def State.selQp (s : State) : Option (Nat × Nat) :=
  match s.qm.qps.find? (fun e => e.2.num == s.qm.sel.toNat) with
  | some e => some (e.1 / 4096, e.1 % 4096)
  | none => none

/-- QM_ (R72). -/
def State.regQm (s : State) (off : Nat) : Word :=
  match off, s.selQp with
  | 0x00, _ => fieldAt s.qm.qps.length 0
  | 0x04, _ => fieldAt s.qm.sel.toNat 0
  | 0x08, some (f, q) => flagAt true 31 ||| fieldAt q 10 ||| fieldAt f 0
  | 0x0C, some (f, q) => s.qpStatus f q
  | 0x10, some (f, q) => fieldAt ((s.qp f q).sqDepth - 1) 16 ||| fieldAt ((s.qp f q).cqDepth - 1) 0
  | 0x14, _ => s.qm.cplLost
  | _, _ => 0

/-! ## ORC_ -/

/-- A byte of ORC_REGION_STATE (R93). -/
def Region.stateByte (r : Region) : Nat :=
  flag r.inService * 128 + flag r.draining * 64 + flag r.reloading * 32 + r.family % 16

/-- ORC_ (R92 to R94). -/
def State.regOrc (s : State) (off : Nat) : Word :=
  let o := s.orc
  match off with
  | 0x00 => loWord o.tick
  | 0x04 => o.tickLatch
  | 0x08 => 0x02000040
  | 0x0C => fieldAt s.delayCount 0
  | 0x10 => fieldAt o.delayPeak 0
  | 0x14 => fieldAt (min s.entropyCount 0xFFFF) 16 ||| bitList ((List.range 16).map (fun k => (s.gen k).pastLimit))
  | 0x18 => BitVec.ofNat 32 ((List.range 4).foldl (fun n r => n + (s.region r).stateByte * 256 ^ r) 0)
  | 0x20 => fieldAt (s.pend .pip) 0
  | 0x24 => fieldAt (s.pend .med) 0
  | 0x28 => fieldAt (s.pend .cip) 0
  | 0x2C => fieldAt (s.pend .dig) 0
  | 0x30 => loWord o.extend
  | 0x34 => o.extendLatch
  | 0x38 => o.budgetWaits
  | 0x40 => loWord o.traceBase.toNat
  | 0x44 => hiWord o.traceBase.toNat
  | 0x48 => o.traceNext.getD o.traceCtrl
  | 0x4C => fieldAt o.traceHead 0
  | 0x50 => fieldAt o.traceTail 0
  | 0x54 => o.traceLost
  | _ => 0

/-! ## PIP_, ZST_, MED_ and CUR_ -/

/-- The status word of an engine or lane (R152, R244, R263). -/
def Cell.statusWord (k : Cell) : Word :=
  flagAt k.inService 31 ||| flagAt k.outFault 30 ||| flagAt k.outAdmin 29 ||| fieldAt k.uncorr.toNat 8

/-- Units in service of a class, from unit `n` on. -/
def State.inServiceWord (s : State) (c : UnitClass) (n count : Nat) : Word :=
  bitList ((List.range count).map (fun i => (s.cell c (n + i)).inService))

/-- FAMILY and VERSION of a bank (R151). -/
def verWord (fam : Nat) (v : BitVec 16) : Word := fieldAt fam 28 ||| fieldAt v.toNat 0

/-- A register of cluster `k` (R151, R152). -/
def State.regCluster (s : State) (k off : Nat) : Word :=
  let c := s.cluster k
  match off with
  | 0x00 => verWord c.family c.version
  | 0x04 => verWord c.altFamily c.altVersion
  | 0x08 => flagAt c.activeB 31 ||| flagAt c.altValid 30 ||| flagAt c.loading 29 ||| flagAt c.selfTest 28
      ||| s.inServiceWord .pip (8 * k) 8
  | 0x0C => c.corr
  | 0x10 => c.dispatch
  | _ => 0

/-- PIP_ (R151). -/
def State.regPip (s : State) (off : Nat) : Word :=
  if off < 0x10 then s.inServiceWord .pip (8 * off) 32
  else if 0x100 ≤ off ∧ off < 0x300 then s.regCluster ((off - 0x100) / 32) (off % 32)
  else if 0x1000 ≤ off ∧ off < 0x1200 then (s.cell .pip ((off - 0x1000) / 4)).statusWord
  else 0

/-- Blocks since the last reseed, as ZST_STATUS shows them (R153). -/
def State.zestBlocks (s : State) (g : Gen) : Nat := min (s.blocksOf g) 0x100000

/-- ZST_ (R153). -/
def State.regZst (s : State) (off : Nat) : Word :=
  let g := s.gen (off / 16)
  if 0x100 ≤ off then 0
  else if off % 16 = 0 then
    flagAt g.seeded 31 ||| flagAt g.pastLimit 30 ||| flagAt g.failing 29
      ||| fieldAt (if g.seeded then s.zestBlocks g else 0) 0
  else if off % 16 = 4 then fieldAt (if g.seeded then min (s.now - g.last) 0xFFFFFFFF else 0) 0
  else if off % 16 = 8 then g.reseeds
  else g.hits

/-- MED_ (R243, R244). -/
def State.regMed (s : State) (off : Nat) : Word :=
  if off = 0x00 then s.inServiceWord .med 0 32
  else if off = 0x04 then
    bitList ((List.range 16).map (fun p => (s.gen (16 + p)).seeded) ++ (List.range 16).map (fun p => (s.gen (16 + p)).pastLimit))
  else if off = 0x08 then s.eng.medHits
  else if off = 0x0C then s.eng.medCorr
  else if 0x40 ≤ off ∧ off < 0x80 then Tab.get 0 s.eng.counts (16 + (off - 0x40) / 4)
  else if 0x100 ≤ off ∧ off < 0x180 then
    (s.cell .med ((off - 0x100) / 4)).statusWord ||| flagAt (s.cluster (16 + (off - 0x100) / 32)).activeB 28
  else 0

/-- Bulk lane items dispatched and unposted hold a context (R262). -/
def State.contexts (s : State) : Nat :=
  s.orc.items.foldl (fun n it =>
    n + (it.steps.filter (fun st => st.isService && (st.first.isSome || decide (0 < st.svc)))).length) 0

/-- HBM staging reserved for AEAD holds in KiB (R262). -/
def State.holdKib (s : State) : Nat :=
  (s.orc.items.filter (·.counted)).foldl (fun n it => n + it.steps.foldl (fun m st => m + st.holdKib) 0) 0

/-- CUR_ (R262, R263, R276). -/
def State.regCur (s : State) (off : Nat) : Word :=
  if off = 0x00 then s.inServiceWord .cip 0 8 ||| (s.inServiceWord .dig 0 16 <<< 16)
  else if off = 0x04 then fieldAt s.contexts 0
  else if off = 0x08 then fieldAt s.holdKib 0
  else if off = 0x0C then s.eng.curScrubbed
  else if off = 0x10 then s.eng.curCorr
  else if 0x40 ≤ off ∧ off < 0x60 then Tab.get 0 s.eng.counts (32 + (off - 0x40) / 4)
  else if 0x80 ≤ off ∧ off < 0xA0 then (if off < 0x90 then 0x80 else 0x10)
  else if 0x100 ≤ off ∧ off < 0x120 then (s.cell .cip ((off - 0x100) / 4)).statusWord
  else if 0x140 ≤ off ∧ off < 0x180 then (s.cell .dig ((off - 0x140) / 4)).statusWord
  else if off = 0x200 then s.eng.legacy
  else 0

/-! ## PLP_ and HBM_ -/

/-- Sums of quotas over the tenants (R211, R296). -/
def State.sumTen (s : State) (f : Tenant → Nat) : Nat := s.fns.foldl (fun n e => n + f e.2.ten) 0

/-- PLP_ (R217). -/
def State.regPlp (s : State) (off : Nat) : Word :=
  let p := s.pulp
  let t := p.sel.toNat
  let w := (s.fn t).pulp
  match off with
  | 0x00 => fieldAt p.resOn 24 ||| fieldAt p.resHbm 8 ||| fieldAt (s.tierMib / 1024) 0
  | 0x04 => fieldAt (16384 - (64 * p.resOn + s.sumTen (·.pulpOn))) 0
  | 0x08 => fieldAt (s.tierMib - (64 * p.resHbm + s.sumTen (·.pulpHbm))) 0
  | 0x0C => p.integFail
  | 0x10 => fieldAt (p.shared.filter (fun x => x.entry.isSome && x.onChip)).length 16
      ||| fieldAt (p.shared.filter (fun x => x.entry.isSome && !x.onChip)).length 0
  | 0x14 => p.sharedHits
  | 0x20 => fieldAt t 0
  | 0x24 => s.pulpOnWord t
  | 0x28 => s.pulpHbmWord t
  | 0x2C => w.epoch
  | 0x30 => w.hitsOn
  | 0x34 => w.hitsHbm
  | 0x38 => w.misses
  | 0x3C => w.evicts
  | _ => 0

/-- HBM_ (R219, R220). -/
def State.regHbm (s : State) (off : Nat) : Word :=
  let h := s.hbm
  match off with
  | 0x000 => flagAt h.trained 31 ||| flagAt h.fillDone 30 ||| fieldAt h.groups.toNat 24
  | 0x008 => loWord h.pcOut.toNat
  | 0x00C => hiWord h.pcOut.toNat
  | 0x010 => h.corr
  | 0x014 => h.uncorr
  | 0x018 => h.sealFail
  | 0x01C => h.patrols
  | 0x100 => fieldAt h.lpbkPc.toNat 16 ||| fieldAt h.lpbkDepth.toNat 0
  | 0x104 => h.lpbkErr
  | _ => 0

/-! ## VLT_ and RNG_ -/

/-- VLT_STATUS (R311). -/
def State.vltStatus (s : State) : Word :=
  let v := s.vlt
  flagAt (v.unsealed && !v.keysHalted) 31 ||| flagAt v.emptyInit 30 ||| flagAt v.latched 29 ||| flagAt s.nv.mwk.isSome 28
    ||| fieldAt v.root 24 ||| fieldAt v.replayed.toNat 8 ||| fieldAt v.discarded.toNat 0

/-- Key-store space in MiB: 2 GiB of each region group in use (R200, R201). -/
def State.ksMibTotal (s : State) : Nat :=
  2048 * ((List.range 4).filter (fun g => s.hbm.groups.getLsbD g || !s.hbm.trained)).length

/-- VLT_ (R310, R311). -/
def State.regVlt (s : State) (off : Nat) : Word :=
  let v := s.vlt
  match off with
  | 0x00 => s.vltStatus
  | 0x04 => fieldAt (s.sumTen (·.slots)) 0
  | 0x08 => fieldAt (v.slots.filter (fun e => e.2.occ)).length 0
  | 0x0C => fieldAt ((heapUnits - s.heapUsed) / 16) 0
  | 0x10 => loWord v.seq
  | 0x14 => v.seqLatch
  | 0x18 => fieldAt (s.ksMibTotal - s.sumTen (·.ksMib)) 0
  | 0x1C => v.reject
  | 0x20 => wordAt Config.deviceId.toNat 0
  | 0x24 => wordAt Config.deviceId.toNat 1
  | 0x28 => wordAt Config.deviceId.toNat 2
  | 0x2C => wordAt Config.deviceId.toNat 3
  | _ => 0

/-- A source's byte of RNG_SRC_STATUS (R328). -/
def Src.byte (x : Src) : Nat :=
  flag x.ok * 128 + flag x.startup * 64 + flag x.failed * 32 + flag x.dead * 16 + min x.runs 8

/-- RNG_ (R327 to R329); a raw sample word is a free value. -/
def State.regRng (s : State) (off : Nat) : Word :=
  let r := s.rng
  match off with
  | 0x000 => flagAt (r.ready && !r.drbgFailed && !r.rawEn) 31 ||| flagAt r.drbgFailed 30
      ||| fieldAt ((r.srcs.getD 0 {}).byte + 256 * (r.srcs.getD 1 {}).byte + 65536 * (r.srcs.getD 2 {}).byte) 0
  | 0x008 => (r.srcs.getD 0 {}).fails
  | 0x00C => (r.srcs.getD 1 {}).fails
  | 0x010 => (r.srcs.getD 2 {}).fails
  | 0x014 => loWord r.reseeds
  | 0x018 => r.reseedsLatch
  | 0x01C => flagAt (s.nv.perso != r.perso) 1 ||| flagAt (r.perso != 0) 0
  | 0x100 => fieldAt r.rawSrc.toNat 2 ||| flagAt r.rawEn 0
  | 0x104 => if r.rawEn then Config.freeWord s.free else 0
  | _ => 0

/-! ## RND_ and LC_ -/

/-- RND_STATUS (R388). -/
def State.rndStatus (s : State) : Word :=
  flagAt (decide (3 ≤ s.lcState)) 31 ||| flagAt s.rnd.hold 30 ||| flagAt s.rnd.configValid 29 ||| fieldAt s.rnd.level 26
    ||| fieldAt s.rnd.supply 24 ||| fieldAt s.rnd.latch.length 16 ||| fieldAt s.rnd.latchOvf.toNat 8

/-- RND_ (R387, R388). A stimulus pass is one command, so BUSY reads 0. -/
def State.regRnd (s : State) (off : Nat) : Word :=
  let r := s.rnd
  if off = 0x00 then s.rndStatus
  else if off = 0x04 then fieldAt r.alarm.toNat 0
  else if off = 0x08 then fieldAt s.presentNow.toNat 0
  else if off = 0x0C then fieldAt s.nv.fuses.toNat 0
  else if off = 0x10 then fieldAt r.stimFail.toNat 0
  else if off = 0x20 then fieldAt r.thigh.toNat 16 ||| fieldAt r.tlow.toNat 0
  else if off = 0x24 then fieldAt r.tampPol.toNat 0
  else if 0x80 ≤ off ∧ off < 0xF8 then Tab.get 0x21000001 r.cfg ((off - 0x80) / 4)
  else if 0x100 ≤ off ∧ off < 0x180 then
    match r.latch[(off - 0x100) / 8]? with
    | some e => if off % 8 = 0 then loWord e.word else hiWord e.word
    | none => 0
  else 0

/-- LC_STATE (R369). -/
def State.lcWord (s : State) : Word :=
  flagAt s.lc.ikhSet 11 ||| fieldAt s.lcBits 8 ||| fieldAt s.lcState 0

/-- LC_ (R368, R369). -/
def State.regLc (s : State) (off : Nat) : Word :=
  if off = 0x00 then s.lcWord
  else if off = 0x04 then fieldAt s.lc.complete.toNat 8 ||| fieldAt s.lc.started.toNat 0
  else if 0x10 ≤ off ∧ off < 0x20 then wordAt s.lc.nonce.toNat ((off - 0x10) / 4)
  else if off = 0x20 then fieldAt s.lcResult 0
  else if 0x40 ≤ off ∧ off < 0x70 then wordAt s.lc.ikh.toNat ((off - 0x40) / 4)
  else 0

/-! ## FLT_ -/

/-- Sources in a state (R407). -/
def State.srcsIn (s : State) (n : Nat) : Nat := (s.flt.srcs.filter (fun e => e.2.state == n)).length

/-- FLT_FIRST_SRC (R407). -/
def Flt.firstWord (f : Flt) : Word :=
  flagAt f.firstValid 31 ||| flagAt f.firstSelf 30 ||| flagAt f.firstEsc 29 ||| fieldAt f.firstSev 24
    ||| fieldAt f.firstUnit 8 ||| fieldAt f.firstSrc 0

/-- FLT_SRC_CFG and FLT_SRC_STATE of a source (R407). -/
def State.srcCfgWord (s : State) (n : Nat) : Word :=
  fieldAt (s.srcAction n) 29 ||| fieldAt (s.srcCap n) 26 ||| fieldAt (if srcReserved n then 0 else srcSev n) 16
def SrcRec.stateWord (x : SrcRec) : Word :=
  fieldAt x.state 30 ||| flagAt x.present 29 ||| fieldAt x.levelNow 26 ||| flagAt x.acked 25 ||| fieldAt x.recov.toNat 0

/-- The entry of a history that stands at index `i` of `n` (R402). -/
def histAt (l : List Hist) (n i : Nat) : Option Hist := l.find? (fun h => h.seq % n == i)

/-- The history entry that an offset of FLT_HIST or FLT_REG_HIST names. -/
def State.histOf (s : State) (off : Nat) : Option Hist :=
  if off < 0xC00 then histAt s.flt.hist 32 ((off - 0xA00) / 16)
  else histAt (Tab.get [] s.flt.regHist ((off - 0xC00) / 128)) 8 (off % 128 / 16)

/-- An entry's DW1 to DW3, as a read of DW0 latches them. -/
def Hist.rest (h : Hist) : List Word := [BitVec.ofNat 32 h.dw1, BitVec.ofNat 32 h.dw2, BitVec.ofNat 32 h.dw3]

/-- FLT_ (R406, R407). -/
def State.regFlt (s : State) (off : Nat) : Word :=
  let f := s.flt
  if off = 0x00 then
    flagAt f.firstValid 31 ||| flagAt s.notifyPending 30 ||| flagAt s.faultN 29 ||| fieldAt s.rnd.level 26
      ||| fieldAt (min (s.srcsIn 1) 255) 8 ||| fieldAt (min (s.srcsIn 2) 255) 0
  else if off = 0x04 then f.firstWord
  else if off = 0x08 then loWord f.firstTick
  else if off = 0x0C then f.firstLatch
  else if off = 0x14 then fieldAt f.recovTotal.toNat 0
  else if off = 0x18 then fieldAt f.next.toNat 0
  else if off = 0x1C then f.lost
  else if off = 0x20 then fieldAt f.graceBlk 0
  else if off = 0x24 then fieldAt f.graceReg 0
  else if off = 0x28 then fieldAt f.graceChip 0
  else if off = 0x2C then fieldAt f.quiet 0
  else if off = 0x30 then fieldAt f.recWindow 16 ||| fieldAt f.recCount 0
  else if 0x40 ≤ off ∧ off < 0x50 then
    fieldAt (Tab.get (0 : BitVec 16) f.regLost ((off - 0x40) / 4)).toNat 16
      ||| fieldAt (Tab.get (0 : BitVec 16) f.regNext ((off - 0x40) / 4)).toNat 0
  else if 0x100 ≤ off ∧ off < 0x120 then wordAt f.cause.toNat ((off - 0x100) / 4)
  else if 0x200 ≤ off ∧ off < 0x600 then s.srcCfgWord ((off - 0x200) / 4)
  else if 0x600 ≤ off ∧ off < 0xA00 then (s.src ((off - 0x600) / 4)).stateWord
  else if 0xA00 ≤ off ∧ off < 0xE00 then
    if off % 16 = 0 then
      match s.histOf off with
      | some h => BitVec.ofNat 32 h.dw0
      | none => 0
    else f.histLatch.getD (off % 16 / 4 - 1) 0
  else 0

/-! ## LOG_, MP_, PWR_, SB_, GRP_ -/

/-- SEQ and offset of the oldest rolling record (R421). -/
def Log.oldest (l : Log) : Nat × Nat :=
  match l.recs with
  | r :: _ => (r.1.toNat, r.2.1)
  | [] => (0, 0x40000)

/-- LOG_ (R421). -/
def State.regLog (s : State) (off : Nat) : Word :=
  let l := s.log
  if off = 0x00 then flagAt l.ready 31 ||| flagAt l.foundOpen 30 ||| flagAt l.foundClosed 29
  else if off = 0x04 then fieldAt l.newestSeq.toNat 0
  else if off = 0x08 then fieldAt l.newestOff 0
  else if off = 0x0C then fieldAt l.oldest.1 0
  else if off = 0x10 then fieldAt l.oldest.2 0
  else if off = 0x14 then l.gen
  else if off = 0x18 then fieldAt l.opSec 0
  else if off = 0x1C then fieldAt (l.pcycle % 2 ^ 24) 0
  else if off = 0x20 then l.dropped
  else if off = 0x24 then fieldAt l.page.toNat 0
  else if 0x8000 ≤ off then BitVec.ofNat 32 (l.mem.leNat (0x8000 * l.page.toNat + (off - 0x8000)) 4)
  else 0

/-- MP_STATUS (R351). -/
def State.mpStatus (s : State) : Word :=
  let m := s.mp
  flagAt m.running 31 ||| flagAt m.loader 30 ||| flagAt m.activeB 29 ||| flagAt m.trial 28 ||| flagAt m.reverted 27
    ||| flagAt m.bankA.valid 26 ||| flagAt m.bankB.valid 25 ||| flagAt m.staging 24 ||| fieldAt m.lastCause 8

/-- MP_FW_VER of a bank (R350). -/
def Bank.verWord (b : Bank) : Word :=
  if b.valid then fieldAt b.major 24 ||| fieldAt b.minor 16 ||| fieldAt b.patch 8 ||| fieldAt b.svn 0 else 0

/-- MP_ (R350, R351). -/
def State.regMp (s : State) (off : Nat) : Word :=
  let m := s.mp
  match off with
  | 0x00 => s.mpStatus
  | 0x04 => m.bankA.verWord
  | 0x08 => m.bankB.verWord
  | 0x0C => fieldAt s.nv.svnMin 0
  | 0x10 => m.restarts
  | 0x14 => flagAt m.rlBusy 31 ||| fieldAt m.rlStep 28 ||| fieldAt m.rlRegion.val 26 ||| flagAt m.rlBack 25
      ||| fieldAt (if m.rlStep = 0 then 0 else min ((s.now - m.rlStart) / 1000) 0xFFFF) 0
  | 0x18 => fieldAt (s.fns.filter (fun e => e.2.mb.busy)).length 0
  | _ => 0

/-- The residence shown for a state, in ms (R439). -/
def State.resMs (s : State) (st us : Nat) : Word :=
  fieldAt (((us + (if s.pwr.state = st then s.now - s.pwr.enteredAt else 0)) / 1000) % 2 ^ 32) 0

/-- PWR_ (R439, R440). -/
def State.regPwr (s : State) (off : Nat) : Word :=
  let p := s.pwr
  match off with
  | 0x00 => fieldAt (if p.state = 0 then flag s.noneRuns else p.state) 29 ||| fieldAt s.target 26 ||| fieldAt p.deepest 23
      ||| fieldAt s.tol 0
  | 0x04 => fieldAt p.idleP2 0
  | 0x08 => fieldAt p.idleP3 0
  | 0x0C => fieldAt p.idleP4 0
  | 0x10 => fieldAt p.ltr.toNat 0
  | 0x14 => s.resMs 2 p.resP2
  | 0x18 => s.resMs 3 p.resP3
  | 0x1C => s.resMs 4 p.resP4
  | 0x20 => fieldAt (p.temps.foldl (fun m t => if m.toInt < t.toInt then t else m) (p.temps.getD 0 0)).toNat 24
      ||| fieldAt ((List.range 4).foldl (fun n r => n + (s.region r).thermal * 8 ^ r) 0) 0
  | 0x24 => BitVec.ofNat 32 ((List.range 4).foldl (fun n r => n + (p.temps.getD r 0).toNat * 256 ^ r) 0)
  | 0x28 => fieldAt (p.temps.getD 4 0).toNat 0
  | 0x2C => flagAt p.rootLock 31 ||| flagAt p.hbm0Lock 30 ||| flagAt p.hbm1Lock 29 ||| flagAt p.sscEn 28 ||| flagAt p.xtal 27
  | 0x30 => flagAt p.avsLimit 31 ||| fieldAt p.avs 0
  | 0x34 => flagAt p.shutFlag 0
  | _ => 0

/-- SB_ (R458). -/
def State.regSb (s : State) (off : Nat) : Word :=
  let b := s.sb
  match off with
  | 0x000 => flagAt b.daValid 31 ||| flagAt b.ibiEn 30 ||| flagAt b.hjEn 29 ||| flagAt b.eidValid 28
      ||| fieldAt b.da.toNat 8 ||| fieldAt b.eid.toNat 0
  | 0x004 => loWord s.provId.toNat
  | 0x008 => hiWord s.provId.toNat
  | 0x00C => fieldAt b.mwl.toNat 16 ||| fieldAt b.mrl.toNat 0
  | 0x010 => b.rx
  | 0x014 => b.tx
  | 0x018 => b.err
  | 0x100 => fieldAt b.lpbkDepth.toNat 0
  | 0x104 => b.lpbkErr
  | _ => 0

/-- GRP_ (R459). -/
def State.regGrp (s : State) (off : Nat) : Word :=
  let g := s.grp
  let p := s.peer g.peerSel.toNat
  match off with
  | 0x00 => flagAt g.member 31 ||| flagAt g.minority 30 ||| flagAt g.resyncing.isSome 29
      ||| flagAt (g.peers.any (fun e => e.2.member && e.2.addr == 0)) 28 ||| fieldAt g.index 16 ||| fieldAt g.quorum 8
      ||| fieldAt s.view.length 0
  | 0x04 => loWord g.groupId.toNat
  | 0x08 => hiWord g.groupId.toNat
  | 0x0C => g.epoch
  | 0x10 => bitList ((List.range 32).map (fun i => s.view.contains i))
  | 0x14 => bitList ((List.range 32).map (fun i => s.view.contains (32 + i)))
  | 0x18 => fieldAt g.mirrorTo 0
  | 0x1C => fieldAt g.pending.length 0
  | 0x20 => g.timeouts
  | 0x24 => g.conflicts
  | 0x28 => g.frameRej
  | 0x30 => fieldAt g.peerSel.toNat 0
  | 0x34 => fieldAt (if !p.member then 0 else if p.resync then 3 else if p.inService then 1 else 2) 30
      ||| flagAt (p.member && p.addr == 0) 29
      ||| fieldAt (if p.member then min ((s.now - p.last) / 1000) 0xFFFF else 0) 0
  | _ => 0

/-! ## BAR4 -/

/-- A window that answers in the present mode: SCRAPPED (R367), ALARMED (R33), the loader (R473). -/
def State.answers (s : State) (off : Nat) : Bool :=
  let w := off / 0x10000
  let hi := decide (0x8000 ≤ off % 0x10000)
  if s.scrapped then w == 8 && hi
  else if s.rnd.alarmed then w == 0 || w == 8 || w == 9 || w == 10
  else if s.mp.loader then w == 0 || (w == 6 && hi) || w == 8 || w == 9 || w == 10 || w == 12
  else true

/-- BAR4 of the PF (R32). -/
def State.reg4 (s : State) (off : Nat) : Word :=
  let w := off / 0x10000
  let o := off % 0x10000
  let lo := decide (o < 0x8000)
  let h := o - 0x8000
  if !s.answers off then 0
  else match w with
  | 0x0 => s.regHif o
  | 0x1 => s.regQm o
  | 0x2 => s.regOrc o
  | 0x3 => if lo then s.regPip o else s.regZst h
  | 0x4 => s.regMed o
  | 0x5 => s.regCur o
  | 0x6 => if lo then s.regPlp o else s.regHbm h
  | 0x7 => if lo then s.regVlt o else s.regRng h
  | 0x8 => if lo then s.regRnd o else s.regLc h
  | 0x9 => s.regFlt o
  | 0xA => s.regLog o
  | 0xB => s.regMp o
  | 0xC => if lo then s.regPwr o else s.regSb h
  | 0xD => s.regGrp o
  | 0xF => if o < 0x100 then (s.fn 0).pbaWord (8 * o) else 0
  | _ => 0

end Sys2Proof.Machine
end

