-- ==== Sys2Proof/Machine/Mailbox.lean ====
section
/-! DEFINITION. Mailbox requests (R332 to R341): the checks that every request meets, the response, and the commands on
status, queue pairs and tenants (R43, R44, R99 to R103, R109, R113, R115, R214, R477). -/

namespace Sys2Proof

/-- Payload word `i` (from 0) as a number. -/
def MbReq.w (r : MbReq) (i : Nat) : Nat := (r.words.getD i 0).toNat

/-- Six allotments, from word `i` of a request on; an MSI-X word of 0 keeps the present one. -/
def MbReq.allots (r : MbReq) (old : Machine.Tenant) (i : Nat) : Machine.Tenant :=
  { old with qpLimit := r.w i, msix := if r.w (i + 1) = 0 then old.msix else r.w (i + 1), slots := r.w (i + 2)
             pulpOn := r.w (i + 3), pulpHbm := r.w (i + 4), ksMib := r.w (i + 5) }

/-- Five share values, from word `i` of a request on. -/
def MbReq.share (r : MbReq) (i : Nat) : Machine.ShareCfg :=
  { weight := r.w i, commit := r.w (i + 1), ceiling := r.w (i + 2), backlog := r.w (i + 3), burst := r.w (i + 4) }

end Sys2Proof

namespace Sys2Proof.Machine

/-! ## The command set (R340) -/

/-- A row of R340: the code, whether the PF's mailbox alone serves it, whether ALARMED mode and the loader serve it,
whether it is a status request (R99), and the life-cycle states that permit it. -/
structure MbCmd where
  code : Nat
  admin : Bool := true
  alarmed : Bool := false
  loader : Bool := false
  status : Bool := false
  states : List Nat := [1, 2, 3, 4]
deriving DecidableEq, Repr

/-- The rows of R340. RECOVERY is served in ALARMED mode alone. -/
def mbCmds : List MbCmd :=
  [{ code := 0x0001, admin := false, alarmed := true, loader := true, status := true },
   { code := 0x0002, admin := false, loader := true, status := true },
   { code := 0x0101, admin := false }, { code := 0x0102, admin := false }, { code := 0x0103, admin := false },
   { code := 0x0104, admin := false },
   { code := 0x0201 }, { code := 0x0202 }, { code := 0x0203 }, { code := 0x0204 }, { code := 0x0205 },
   { code := 0x0206 }, { code := 0x0207 },
   { code := 0x0301 }, { code := 0x0302 }, { code := 0x0303 },
   { code := 0x0401, admin := false }, { code := 0x0402, admin := false }, { code := 0x0403, admin := false },
   { code := 0x0404, admin := false }, { code := 0x0405, admin := false }, { code := 0x0406, admin := false },
   { code := 0x0407, admin := false }, { code := 0x0408 }, { code := 0x0409 }]
  ++ [{ code := 0x0501 }, { code := 0x0502, states := [2, 3] }, { code := 0x0503, states := [2, 3] }, { code := 0x0504 },
   { code := 0x0505, states := [1, 2] }, { code := 0x0506 }, { code := 0x0601 },
   { code := 0x0602, alarmed := true, states := [] },
   { code := 0x0701, loader := true }, { code := 0x0702, loader := true }, { code := 0x0703 }, { code := 0x0704 },
   { code := 0x0705 }, { code := 0x0706 }, { code := 0x0707 }, { code := 0x0708 },
   { code := 0x0801, states := [2, 3] }, { code := 0x0901, alarmed := true, loader := true }]

def cmdOf (code : Nat) : Option MbCmd := mbCmds.find? (fun c => c.code == code)

/-- The mailbox of a function serves the command (check 3 of R337, R341, R344). -/
def State.cmdServed (s : State) (fn : Nat) (c : MbCmd) : Bool :=
  (!c.admin || fn == 0) && (!s.rnd.alarmed || c.alarmed) && (!s.mp.loader || c.loader)

/-- The life-cycle state permits the command (check 5); RECOVERY is permitted by ALARMED mode. -/
def State.lcPermits (s : State) (c : MbCmd) : Bool :=
  c.states.contains s.lcState || (s.rnd.alarmed && c.code == 0x0602)

/-- The tenant state refuses the command (R99). -/
def State.tenantRefuses (s : State) (fn : Nat) (c : MbCmd) : Option Reason :=
  match (s.fn fn).ten.st with
  | .active => none
  | .notCreated => if c.status then none else some .tenantNotCreated
  | .suspended => if c.status || c.code == 0x0102 then none else some .tenantSuspended

/-- A request sets a payload bit that its layout reserves; words past the list of masks have none. -/
def resvSet : List QWord → List QWord → Bool
  | m :: ms, w :: ws => (w &&& ~~~m) != 0 || resvSet ms ws
  | _, _ => false

/-- Checks 1 to 5 of R337, in order. -/
def State.mbCheck (s : State) (code : Nat) (r : MbReq) (lens : List Nat) (masks : List QWord) :
    Option (Status × Reason) :=
  if r.format ≠ 1 then some (.versionMismatch, .none)
  else if r.resv || resvSet masks r.words then some (.badDescriptor, .reservedSet)
  else match cmdOf code with
    | none => some (.badOpcode, .none)
    | some c =>
      if !s.cmdServed r.fn.val c then some (.badOpcode, .none)
      else if !lens.contains r.len then some (.badLength, .field)
      else if !s.lcPermits c then some (.stateRefused, lcReason s.lcState)
      else (s.tenantRefuses r.fn.val c).map (fun why => (.stateRefused, why))

/-! ## Replies -/

/-- How a command that passed checks 1 to 5 ends. -/
inductive Reply where
  /-- ST_OK with FLAGS and payload. -/
  | ok (flags : Nat) (payload : List Byte)
  | bad (st : Status) (why : Reason)
  /-- ST_STATE_REFUSED with one word DETAIL (R338). -/
  | detail (n : Nat)
  /-- ST_DEVICE_FAULT with one word ACKS (R453). -/
  | faultWord (n : Nat)
  /-- A failed DMA read (R336). -/
  | readFail
  /-- Answered by a later command, or never. -/
  | later
deriving DecidableEq, Repr

/-- ST_OK with result words. -/
def Reply.words (l : List QWord) : Reply := .ok 0 (wordBytes l)
def Reply.done : Reply := .ok 0 []

/-- The tenant that an ADMIN record names: word 1 of the commands that act on another tenant. -/
def recTenant (code : Nat) (r : MbReq) : Nat :=
  if within code 0x0201 0x0206 || code == 0x0408 then (r.words.getD 0 0).toNat % 1024 else 0

/-- State-changing admin commands (R413). -/
def changes (code : Nat) : Bool :=
  match cmdOf code with
  | some c => c.admin && !(code == 0x0207 || code == 0x0901)
  | none => false

/-- The ADMIN record of a command that changes state (R413). -/
def State.adminRecord (s : State) (code : Nat) (r : MbReq) (st : Status) : State :=
  if changes code then s.adminLog code (recTenant code r) st r.words else s

/-- Answer a request. -/
def State.answer (s : State) (code : Nat) (r : MbReq) (x : Reply) : State :=
  let say := fun (t : State) st why flags payload => t.mbRespond r.fn.val code r.token st why flags payload
  match x with
  | .ok flags payload => say (s.adminRecord code r .ok) .ok .none flags payload
  | .bad st why => say s st why 0 []
  | .detail n => say s .stateRefused .none 0 (leBytes 8 n)
  | .faultWord n => say s .deviceFault .none 0 (leBytes 8 n)
  | .readFail => say (s.readFailed r.fn.val) .badDescriptor .hostReadFail 0 []
  | .later => s

/-- GO (R334): BUSY sets and DONE clears. -/
def State.mbGo (s : State) (fn : Nat) : State :=
  ({ s with pwr := { s.pwr with idleSince := s.now } }).setMb fn { (s.fn fn).mb with busy := true, done := false }

/-- The answer of the mailbox hardware where SERVICE is 0 (R341, R347). -/
def State.hwRefuse (s : State) (fn code : Nat) (token : Word) : State :=
  s.mbRespond fn code token .stateRefused (if s.rnd.alarmed && fn != 0 then .none else .mpRestarting) 0 []

/-- A GO takes effect on the mailbox of a function. -/
def State.mbReaches (s : State) (fn : Nat) : Bool := s.reaches fn && (s.fn fn).port.mse && !s.scrapped

/-- A request that passes GO: the checks of R337, then the command. -/
def State.mbServe (s : State) (code : Nat) (r : MbReq) (lens : List Nat) (masks : List QWord)
    (k : State → State × Reply) : State :=
  match s.mbCheck code r lens masks with
  | some (st, why) => s.answer code r (.bad st why)
  | none => (k s).1.answer code r (k s).2

/-- A mailbox request (R334, R337). A GO while BUSY is 1 only sets BAD_ACCESS. -/
def State.mbRun (s : State) (code : Nat) (r : MbReq) (lens : List Nat) (masks : List QWord)
    (k : State → State × Reply) : State :=
  let fn := r.fn.val
  s.atBar fn fun s =>
  if s.scrapped then s
  else if (s.fn fn).mb.busy then s.badAccess fn
  else if !s.serves fn then (s.mbGo fn).hwRefuse fn code r.token
  else (s.mbGo fn).mbServe code r lens masks k

/-- A DMA read for a function succeeds: the host answered, and Bus Master Enable is 1. -/
def State.readable (s : State) (fn : Nat) (readOk : Bool) : Bool := readOk && (s.fn fn).port.bme

/-- The DMA read of what a request names: an address in word `i` and a length in the next (R24, R336). -/
def State.dmaIn (s : State) (r : MbReq) (i : Nat) : State :=
  if (s.fn r.fn.val).port.bme && r.w (i + 1) != 0 then s.emit (.readReq r.fn.val (r.words.getD i 0) (r.w (i + 1))) else s

/-- A DMA write for a function; without Bus Master Enable nothing is written (R37). -/
def State.dmaOut (s : State) (fn : Nat) (addr : QWord) (bs : List Byte) : State :=
  if (s.fn fn).port.bme then s.emit (.bytes fn addr bs) else s

/-- MAILBOX_GO_REFUSED (R334, R341, R347). -/
def execMailboxGoRefused (fn : Fin 1024) (cmd : BitVec 16) (token : Word) (s : State) :
    Host.Outcome State Fault Refusal :=
  .next (s.atBar fn.val fun s =>
    if s.scrapped || s.serves fn.val then s
    else if (s.fn fn.val).mb.busy then s.badAccess fn.val
    else (s.mbGo fn.val).hwRefuse fn.val cmd.toNat token)

/-- MAILBOX_UNKNOWN_COMMAND (R337, R341): only for a COMMAND that this mailbox does not serve. -/
def execMailboxUnknownCommand (r : MbReq) (cmd : BitVec 16) (s : State) : Host.Outcome State Fault Refusal :=
  .next (
    match cmdOf cmd.toNat with
    | some c => if s.cmdServed r.fn.val c then s else s.mbRun cmd.toNat r [r.len] [] (fun t => (t, .bad .badOpcode .none))
    | none => s.mbRun cmd.toNat r [r.len] [] (fun t => (t, .bad .badOpcode .none)))

/-! ## Status -/

/-- A register as a payload word. -/
def regWord (w : Word) : QWord := w.setWidth 64

/-- The words of GET_STATUS (R477). -/
def State.statusWords (s : State) (fn : Nat) : List QWord :=
  [regWord (s.fnStatus fn), regWord s.mpStatus, regWord s.vltStatus, regWord s.lcWord]

/-- GET_STATUS (R340, R477). -/
def execGetStatus (r : MbReq) (s : State) : Host.Outcome State Fault Refusal :=
  .next (s.mbRun 0x0001 r [0] [] fun t => (t, .words (t.statusWords r.fn.val)))

/-- Bytes 0 to 255 of a bank's manifest (R342); an invalid bank gives zeros. -/
def Bank.manifest (b : Bank) : List Byte :=
  if b.valid then
    [0x01, 0xB0] ++ leBytes 1 b.stateMask ++ leBytes 1 b.svn ++ leBytes 1 b.major ++ leBytes 1 b.minor ++ leBytes 1 b.patch
      ++ [0] ++ leBytes 2 b.families.toNat ++ leBytes 2 b.bundle.toNat ++ leBytes 4 b.fwLen ++ leBytes 4 b.ucodeLen
      ++ leBytes 4 b.tableLen ++ leBytes 8 0 ++ freeBytes b.dig 144 ++ leBytes 80 0
  else leBytes 256 0

/-- The payload of GET_VERSION: both manifests, then PIP_CL_VER of each region (R340). -/
def State.versionBytes (s : State) : List Byte :=
  s.mp.bankA.manifest ++ s.mp.bankB.manifest
    ++ wordBytes ((List.range 4).map (fun r => regWord (verWord (s.cluster (4 * r)).family (s.cluster (4 * r)).version)))

/-- GET_VERSION (R340, R342). -/
def execGetVersion (r : MbReq) (s : State) : Host.Outcome State Fault Refusal :=
  .next (s.mbRun 0x0002 r [0] [] fun t => (t, .ok 0 t.versionBytes))

/-! ## Queue pairs (R43, R44, R113, R115) -/

/-- A power of two from 16 to 65,536. -/
def depthOk (n : Nat) : Bool := [16, 32, 64, 128, 256, 512, 1024, 2048, 4096, 8192, 16384, 32768, 65536].contains n

/-- The coalescing parameters of R113. -/
def coalOk (count time : Nat) : Bool :=
  within count 1 256 && decide (time ≤ 65535) && !(decide (1 < count) && time == 0)

/-- The lowest number from `n` on that a list lacks. -/
def lowestFree (l : List Nat) : Nat → Nat → Nat
  | 0, n => n
  | k + 1, n => if l.contains n then lowestFree l k (n + 1) else n

/-- The device-wide number a new queue pair takes: the lowest free one. -/
def State.freeQpNum (s : State) : Nat := lowestFree (s.qm.qps.map (fun e => e.2.num)) s.qm.qps.length 0

/-- The parameters of R43 and R113 hold for a new queue pair. -/
def State.qpFits (s : State) (fn : Nat) (r : MbReq) : Bool :=
  decide (r.w 0 < (s.fn fn).ten.qpLimit) && !(s.qp fn (r.w 0)).valid && r.w 1 % 4096 == 0 && depthOk (r.w 2)
    && r.w 3 % 4096 == 0 && depthOk (r.w 4) && decide (r.w 5 < (s.fn fn).ten.msix) && coalOk (r.w 6) (r.w 7)
    && decide (s.qm.qps.length < 65536)

/-- The queue pair that QP_CREATE makes (R44). -/
def newQp (r : MbReq) (num : Nat) : Qp :=
  { valid := true, num := num, sqBase := r.words.getD 1 0, sqDepth := r.w 2, cqBase := r.words.getD 3 0, cqDepth := r.w 4
    vector := r.w 5, coalCount := r.w 6, coalTime := r.w 7 }

/-- QP_CREATE (R43, R44, R113): q, SQ_BASE, SQ_DEPTH, CQ_BASE, CQ_DEPTH, VECTOR, COAL_COUNT, COAL_TIME_US. -/
def execQpCreate (r : MbReq) (s : State) : Host.Outcome State Fault Refusal :=
  .next (s.mbRun 0x0101 r [64] [] fun t =>
    let fn := r.fn.val
    if !t.qpFits fn r then (t, .bad .badRange .none)
    else ((t.setQp fn (r.w 0) (newQp r t.freeQpNum)).noteTol, .words [BitVec.ofNat 64 t.freeQpNum]))

/-- A local index that a function holds. -/
def State.holdsIdx (s : State) (fn q : Nat) : Bool := decide (q < 4096) && (s.qp fn q).valid

/-- QP_DELETE (R44). -/
def execQpDelete (r : MbReq) (s : State) : Host.Outcome State Fault Refusal :=
  .next (s.mbRun 0x0102 r [8] [] fun t =>
    let fn := r.fn.val
    if !t.holdsIdx fn (r.w 0) then (t, .bad .badRange .none)
    else if (t.qp fn (r.w 0)).outstanding ≠ 0 then (t, .bad .stateRefused .qpBusy)
    else ((t.setQp fn (r.w 0) {}).noteTol, .done))

/-- QP_INTERRUPT (R44, R113, R115): q, VECTOR, COAL_COUNT, COAL_TIME_US, in force at the next boundary. -/
def execQpInterrupt (r : MbReq) (s : State) : Host.Outcome State Fault Refusal :=
  .next (s.mbRun 0x0103 r [32] [] fun t =>
    let fn := r.fn.val
    if !t.holdsIdx fn (r.w 0) || decide ((t.fn fn).ten.msix ≤ r.w 1) || !coalOk (r.w 2) (r.w 3) then
      (t, .bad .badRange .none)
    else (t.setQp fn (r.w 0) { t.qp fn (r.w 0) with nextInt := some (r.w 1, r.w 2, r.w 3) }, .done))

/-- PULP_FLUSH (R214): the epoch advances and the on-chip entries of the tenant leave. -/
def execPulpFlush (r : MbReq) (s : State) : Host.Outcome State Fault Refusal :=
  .next (s.mbRun 0x0104 r [0] [] fun t =>
    let fn := r.fn.val
    let x := (t.fn fn).pulp
    ((t.setPulp { t.pulp with entries := t.pulp.entries.filter (fun e => !inPart fn true e) }).setPulpPart fn
      { x with epoch := x.epoch + 1 }, .done))

/-! ## Tenants (R34, R35, R99 to R103, R105, R109, R211, R290, R296, R477) -/

/-- The defaults of R103 at creation. -/
def ShareCfg.fresh : ShareCfg := { weight := 16, commit := 0, ceiling := 4294967295, backlog := 4096, burst := 10 }

/-- The ranges of R103. -/
def ShareCfg.ok (c : ShareCfg) : Bool :=
  within c.weight 1 255 && decide (c.commit ≤ 4294967294) && within c.ceiling c.commit 4294967295
    && within c.backlog 1 65535 && within c.burst 1 1000

/-- The ranges of a tenant's allotments (R29, R34, R211, R290, R296). -/
def Tenant.inRange (x : Tenant) (t : Nat) : Bool :=
  decide (x.qpLimit ≤ 4096) && within x.msix 1 (if t = 0 then 2048 else 64) && within x.slots 3 8192
    && decide (x.pulpOn ≤ 16384) && x.pulpOn % 64 == 0 && decide (x.pulpHbm ≤ 32768) && decide (x.ksMib ≤ 2048)

/-- MSI-X vectors of all functions: a function without a record holds 14 (R34). -/
def State.msixSum (s : State) : Nat := s.sumTen (·.msix) + 14 * (1024 - s.fns.length)

/-- A device-wide sum would pass its limit were tenant `t` to hold `x` (R34, R43, R211, R290, R296). -/
def State.sumsPass (s : State) (t : Nat) (x : Tenant) : Bool :=
  let o := (s.fn t).ten
  let exceeds := fun (total old new limit : Nat) => decide (limit < total - old + new)
  exceeds (s.sumTen (·.qpLimit)) o.qpLimit x.qpLimit 65536 || exceeds s.msixSum o.msix x.msix 16384
    || exceeds (s.sumTen (·.slots)) o.slots x.slots 8192
    || exceeds (s.sumTen (·.pulpOn) + 64 * s.pulp.resOn) o.pulpOn x.pulpOn 16384
    || exceeds (s.sumTen (·.pulpHbm) + 64 * s.pulp.resHbm) o.pulpHbm x.pulpHbm s.tierMib
    || exceeds (s.sumTen (·.ksMib)) o.ksMib x.ksMib s.ksMibTotal

/-- What a tenant holds lies beyond a new allotment, or its vectors may not change now (R35, R100). -/
def State.inUse (s : State) (t : Nat) (x : Tenant) : Bool :=
  let o := (s.fn t).ten
  (x.msix != o.msix && (if t = 0 then s.hif.vfEnable else (s.fn t).port.mse || s.holdsQp t))
    || s.qm.qps.any (fun e => e.1 / 4096 == t && decide (x.qpLimit ≤ e.1 % 4096))
    || s.vlt.slots.any (fun e => e.1 / 8192 == t && decide (x.slots ≤ e.1 % 8192) && e.2.occ)
    || decide (1048576 * x.ksMib < s.ksUsed t)

/-- A tenant's allotments are refused: out of range, in use, or past a sum. -/
def State.allotBad (s : State) (t : Nat) (x : Tenant) : Option Reply :=
  if !x.inRange t then some (.bad .badRange .none)
  else if s.inUse t x then some (.detail 0x06)
  else if s.sumsPass t x then some (.detail 0x05)
  else none

/-- Put new allotments into force; vectors beyond the count leave the MSI-X table, and lower Pulp quotas evict. -/
def State.setAllot (s : State) (t : Nat) (x : Tenant) : State :=
  let f := s.fn t
  (s.setFn t { f with ten := x, msix := f.msix.filter (fun e => decide (e.1 < x.msix)) }).pulpFit t

/-- Accounts at their caps (R105). -/
def Share.full (h : Share) (c : ShareCfg) : Share :=
  { h with cfg := c, next := none, backlog := 0, commitAcc := accCap c.commit c.burst
           ceilAcc := if c.ceiling = 4294967295 then 0 else accCap c.ceiling c.burst }

/-- Drop a tenant's deficit counters (R101). -/
def State.dropDeficits (s : State) (t : Nat) : State :=
  { s with orc := { s.orc with deficit := s.orc.deficit.filter (fun e => e.1 % 1024 != t) } }

/-- The tenant comes into being (R99, R100, R105, R291). While the DRBG does not serve, the management processor generates no key
(R322), and the import key comes with the recovery. -/
def State.createTenant (s : State) (t : Nat) (x : Tenant) (c : ShareCfg) : State :=
  let s1 := (s.setAllot t { x with st := .active, mirrored := false }).dropDeficits t
  let s2 := s1.setShare t ((s1.fn t).share.full c)
  (if s2.vlt.unsealed && s2.drbgLive && !s2.rng.rawEn then
      (if s2.rng.demand then (s2.newImportKey t).servePending else s2.newImportKey t)
    else s2).refreshFn t

/-- TENANT_CREATE (R100, R477): 7 or 12 words. -/
def execTenantCreate (r : MbReq) (s : State) : Host.Outcome State Fault Refusal :=
  .next (s.mbRun 0x0201 r [56, 96] [] fun t =>
    let n := r.w 0
    let c := if r.len = 96 then r.share 7 else ShareCfg.fresh
    let x := r.allots (t.fn n).ten 1
    if !within n 1 1023 then (t, .bad .badRange .none)
    else if (t.fn n).ten.st ≠ .notCreated then (t, .detail 0x06)
    else if !c.ok then (t, .bad .badRange .none)
    else match t.allotBad n x with
      | some e => (t, e)
      | none => if t.heapFits (kemDk 2) then (t.createTenant n x c, .done) else (t, .bad .deviceFault .none))

/-- TENANT_SUSPEND and TENANT_RESUME (R99, R100). -/
def State.setTenantState (s : State) (n : Nat) (x : TState) : State × Reply :=
  if 1023 < n ∨ (n = 0 ∧ x = .suspended) then (s, .bad .badRange .none)
  else if (s.fn n).ten.st = .notCreated then (s, .bad .stateRefused .tenantNotCreated)
  else ((s.setTen n { (s.fn n).ten with st := x }).refreshFn n, .done)

/-- TENANT_SUSPEND (R99, R100). -/
def execTenantSuspend (r : MbReq) (s : State) : Host.Outcome State Fault Refusal :=
  .next (s.mbRun 0x0202 r [8] [] fun t => t.setTenantState (r.w 0) .suspended)

/-- TENANT_RESUME (R99). -/
def execTenantResume (r : MbReq) (s : State) : Host.Outcome State Fault Refusal :=
  .next (s.mbRun 0x0203 r [8] [] fun t => t.setTenantState (r.w 0) .active)

/-- Delete a tenant (R101): its keys, blobs, Pulp partition, allotments but for MSI-X, accounts and deficits go. -/
def State.deleteTenant (s : State) (n : Nat) : State :=
  let s1 := (s.setVlt { s.vlt with
    slots := s.vlt.slots.filter (fun e => e.1 / 8192 != n), blobs := s.vlt.blobs.filter (fun e => e.1 / 1048576 != n)
    importIds := s.vlt.importIds.filter (fun e => e.1 != n) }).newTree.pulpScrub n
  let s2 := (s1.setTen n { msix := (s1.fn n).ten.msix }).dropDeficits n
  let h := (s2.fn n).share
  (s2.setShare n { shaped := h.shaped, quota := h.quota, overload := h.overload }).refreshFn n

/-- TENANT_DELETE (R101). -/
def execTenantDelete (r : MbReq) (s : State) : Host.Outcome State Fault Refusal :=
  .next (s.mbRun 0x0204 r [8] [] fun t =>
    let n := r.w 0
    if !within n 1 1023 then (t, .bad .badRange .none)
    else if (t.fn n).ten.st = .notCreated then (t, .bad .stateRefused .tenantNotCreated)
    else if (t.fn n).ten.st = .active ∨ t.holdsQp n then (t, .bad .stateRefused .qpBusy)
    else (t.deleteTenant n, .done))

/-- TENANT_SET_SHARE (R103, R109): in force at the next tick boundary. -/
def execTenantSetShare (r : MbReq) (s : State) : Host.Outcome State Fault Refusal :=
  .next (s.mbRun 0x0205 r [48] [] fun t =>
    let n := r.w 0
    if 1023 < n then (t, .bad .badRange .none)
    else if (t.fn n).ten.st = .notCreated then (t, .bad .stateRefused .tenantNotCreated)
    else if !(r.share 1).ok then (t, .bad .badRange .none)
    else (t.setShare n { (t.fn n).share with next := some (r.share 1) }, .done))

/-- TENANT_SET_ALLOT (R34, R35, R100, R477). -/
def execTenantSetAllot (r : MbReq) (s : State) : Host.Outcome State Fault Refusal :=
  .next (s.mbRun 0x0206 r [56] [] fun t =>
    let n := r.w 0
    let x := r.allots (t.fn n).ten 1
    if 1023 < n then (t, .bad .badRange .none)
    else if (t.fn n).ten.st = .notCreated then (t, .bad .stateRefused .tenantNotCreated)
    else match t.allotBad n x with
      | some e => (t, e)
      | none => (t.setAllot n x, .done))

/-- TENANT_GET (R111): the share registers of any tenant, in their order. -/
def execTenantGet (r : MbReq) (s : State) : Host.Outcome State Fault Refusal :=
  .next (s.mbRun 0x0207 r [8] [] fun t =>
    let n := r.w 0
    if 1023 < n then (t, .bad .badRange .none)
    else
      let f := t.fn n
      (t, .words ((f.shareWords ++ [f.share.shaped, f.share.quota, f.share.overload]).map regWord)))

end Sys2Proof.Machine
end

