-- ==== Sys2Proof/Machine/Mirror.lean ====
section
/-! DEFINITION. The mirror round of a commit in a replication group (R446, R453, R457): what the originator does after
its own commit. -/

namespace Sys2Proof.Machine

/-- A round that fails (R453): counted, and GRP_MIRROR raised unless the device was in MINORITY before it. -/
def State.roundFails (s : State) (loud : Bool) : State :=
  let s1 := s.setGrp { s.grp with timeouts := satSucc s.grp.timeouts }
  if loud then s1.raise 37 0xFF 0 else s1

/-- Members in service fall below QUORUM (R455). -/
def State.belowQuorum (s : State) : Bool := s.grp.member && decide (s.view.length < s.grp.quorum)

/-- The mirror round of a commit to a slot (R453); `flags` are those of R299. A tenant that is not mirrored is
answered at once. -/
def State.mirrorRound (s : State) (r : MbReq) (code t n flags : Nat) : State × Reply :=
  if !s.mirrors t then (s, .ok flags [])
  else
    let m := s.grp.mseq + 1
    let s1 := (s.setGrp { s.grp with mseq := m }).sendCommit m t n
    let acks := if s.grp.resyncing.isSome then 0 else 1
    if s.belowQuorum then ((s1.adminRecord code r .deviceFault).roundFails false, .faultWord acks)
    else if s.grp.quorum ≤ acks then (s1, .ok flags (leBytes 8 acks))
    else
      let s2 := s1.adminRecord code r .ok
      (s2.setGrp { s2.grp with pending := s2.grp.pending ++
        [{ fn := r.fn.val, cmd := code, token := r.token, mseq := m, acks := acks, since := s.now
           applied := flags == 8, tenant := t, slot := n }] }, .later)

/-- End a round with a status; a request that is still outstanding is answered (R453, R457). -/
def State.endRound (s : State) (w : Wait) (st : Status) : State :=
  let s1 := s.setGrp { s.grp with pending := s.grp.pending.filter (fun x => x.mseq != w.mseq) }
  if w.open_ then
    s1.mbRespond w.fn w.cmd w.token st .none (if st = .ok && w.applied then 8 else 0) (leBytes 8 w.acks)
  else s1

/-- Answer every round whose members no longer reach QUORUM (R453), and set MINORITY (R455). -/
def State.checkQuorum (s : State) : State :=
  let low := s.belowQuorum
  let s1 := s.setGrp { s.grp with minority := low }
  if low then s1.grp.pending.foldl (fun a w => (a.endRound w .deviceFault).roundFails true) s1 else s1

end Sys2Proof.Machine
end

