-- ==== Sys2Proof/Machine/MailKeys.lean ====
section
/-! DEFINITION. The mailbox commands on the Pulp cache and on keys (R200, R207, R213, R214, R291, R296 to R302, R305,
R307 to R309, R340, R477). -/

namespace Sys2Proof.Machine

/-! ## Pulp (R200, R213, R214) -/

/-- KiB of the shared entries in a tier. -/
def State.sharedKib (s : State) (onChip : Bool) : Nat :=
  (s.pulp.shared.filter (fun x => x.onChip == onChip)).foldl (fun n x => n + x.kib) 0

/-- PULP_SIZE (R200, R213): tier in GiB, shared on-chip reserve in KiB, shared HBM reserve in MiB. -/
def execPulpSize (r : MbReq) (s : State) : Host.Outcome State Fault Refusal :=
  .next (s.mbRun 0x0301 r [24] [] fun t =>
    let u := t.setPulp { t.pulp with tier := r.w 0, resOn := r.w 1 / 64, resHbm := r.w 2 / 64 }
    if 32 < r.w 0 ∨ 4096 < r.w 1 ∨ r.w 1 % 64 ≠ 0 ∨ 4096 < r.w 2 ∨ r.w 2 % 64 ≠ 0 then (t, .bad .badRange .none)
    else if 16384 < r.w 1 + t.sumTen (·.pulpOn) ∨ u.tierMib < r.w 2 + t.sumTen (·.pulpHbm) then (t, .detail 0x05)
    else if r.w 1 < t.sharedKib true ∨ 1024 * r.w 2 < t.sharedKib false then (t, .detail 0x06)
    else (u, .done))

/-- PULP_PUBLISH (R213): a handle of tenant 0, and 0 for the on-chip reserve or 1 for the HBM reserve. -/
def execPulpPublish (r : MbReq) (s : State) : Host.Outcome State Fault Refusal :=
  .next (s.mbRun 0x0302 r [16] [] fun t =>
    let h := r.words.getD 0 0
    if 1 < r.w 1 then (t, .bad .badRange .none)
    else match t.findKey 0 h true false none with
      | .bad st why => (t, .bad st why)
      | .hostHeld => (t, .bad .keyUsage .none)
      | .attr a _ =>
        let onChip := r.w 1 == 0
        let room := if onChip then 64 * t.pulp.resOn else 65536 * t.pulp.resHbm
        if !(aShared a && publicTypes.contains (aType a)) then (t, .bad .keyUsage .none)
        else if t.isShared h then (t, .detail 0x06)
        else if onChip && aType a == 0x29 then (t, .bad .badRange .none)
        else if room < t.sharedKib onChip + attrKib a then (t, .detail 0x05)
        else (t.setPulp { t.pulp with shared := t.pulp.shared ++
          [(t.sharedBuild { handle := h, kib := attrKib a, onChip := onChip, entry := none } a 0).2] }, .done))

/-- A withdrawal takes effect before another tenant's acceptance of the same tick: an item that names the key and was accepted in
this tick ends with ST_KEY_TENANT while it waits (R216). -/
def State.withdrawNow (s : State) (h : QWord) : State :=
  s.orc.items.foldl (fun a it =>
    match it.steps.find? (fun st => st.waiting && st.first.isNone && st.usesHandle && st.d.key == h) with
    | some st =>
      if it.fn != 0 && it.acc == s.now && it.decided.isNone && it.fail.isNone then
        match a.item? it.seq with
        | some cur => a.failItem cur { st := .keyTenant, step := st.num, at_ := s.now }
        | none => a
      else a
    | none => a) s

/-- PULP_WITHDRAW (R213, R214, R216): the key leaves, and the pool's epoch advances. -/
def execPulpWithdraw (r : MbReq) (s : State) : Host.Outcome State Fault Refusal :=
  .next (s.mbRun 0x0303 r [8] [] fun t =>
    let h := r.words.getD 0 0
    if !t.pulp.shared.any (fun x => x.handle == h) then (t, .bad .keyAbsent .none)
    else ((t.sharedLost h true).withdrawNow h, .done))

/-- The entry of a published key that an engine of a region has to expand again: it is lost, or stale for it (R210, R213). -/
def State.sharedStale (s : State) (x : Shared) (r : Fin 4) : Bool :=
  match x.entry with
  | some e => !s.entryFits s.pulp.sharedEpoch r e
  | none => true

/-- A Pip engine of a region is free for work at PRIO 7: it waits, and no item of a higher PRIO could go to it (R78, R213). -/
def State.idlePip (s : State) (r : Fin 4) : Bool :=
  (s.openUnits .pip r).any (fun n => (s.cell .pip n).waiting.isSome)
    && !(s.readyList .pip r).any (fun x => decide (x.1.prio < 7) && s.eligible .pip r x)

/-- SHARED_POOL_REBUILD (R213): the entry at a place of the pool has been expanded again in the background by an engine of a
region, at PRIO 7 and for `ticks` charged to tenant 0's share. -/
def execSharedPoolRebuild (w : RebuildIn) (s : State) : Host.Outcome State Fault Refusal :=
  .next (
    match s.pulp.shared[w.slot]? with
    | some x =>
      if s.up && s.pwr.state == 0 && s.mp.running && s.vlt.unsealed && s.isShared x.handle && s.sharedStale x w.region
          && s.idlePip w.region then
        let b := s.sharedBuild x (s.sharedAttr x.handle) w.region
        (b.1.setPulp { b.1.pulp with shared := b.1.pulp.shared.set w.slot b.2 }).setShare 0
          ((b.1.fn 0).share.credit (-(Int.ofNat (max 1 w.ticks))))
      else s
    | none => s)

/-! ## Key updates (R298, R299, R302, R305) -/

/-- SECRET as the device sets it (R292). -/
def stampSecret (a : QWord) : QWord :=
  let base := a &&& ~~~(BitVec.ofNat 64 (2 ^ 25))
  if secretTypes.contains (aType a) then base ||| BitVec.ofNat 64 (2 ^ 25) else base

/-- The vault commits: it is unsealed and not halted. -/
def State.commits (s : State) : Bool := s.vlt.unsealed && !s.vlt.keysHalted

/-- An import that is refused counts in VLT_UPDATE_REJECT (R299, R310). -/
def State.reject (s : State) (st : Status) (why : Reason) : State × Reply :=
  (s.setVlt { s.vlt with reject := satSucc s.vlt.reject }, .bad st why)

/-- The payload length fits the action (check 3 of R299). -/
def UpdateOk (m : UpdateMsg) : Bool :=
  m.lengthsOk && within m.action 1 4
    && (if m.action = 3 then m.payloadLen == 0 else if m.action = 4 then m.payloadLen == 8
        else m.payloadLen == m.keyLen + (if aCounted m.attr then 16 else 8))

/-- Check 10 of R299. -/
def State.slotRefuses (s : State) (t : Nat) (m : UpdateMsg) : Option Status :=
  let k := s.slot t m.slot
  if m.slot = 0 then some .keyUsage
  else if m.action = 1 then
    if k.taken || decide ((s.fn t).ten.slots ≤ m.slot) then some .keyUsage else none
  else if k.occ || (k.broken && m.action == 3) then none else some .keyAbsent

/-- Check 12 of R299 with R294, R305 and R447. -/
def State.attrRefuses (s : State) (t : Nat) (m : UpdateMsg) : Option Status :=
  let a := stampSecret m.attr
  let k := s.slot t m.slot
  if m.action = 3 then none
  else if !attrOk t m.slot a || !m.keyValid || (m.slot ≤ 2 && !(aAuthority a && hasAll (aUsage a) uVerify)) then
    some .badRange
  else if m.action = 4 then
    if aType a != aType k.attr || aParam a != aParam k.attr || aCounted a != aCounted k.attr then some .badRange
    else if aUsage a &&& aUsage k.attr != aUsage a then some .keyUsage else none
  else if aCounted a then
    if !within m.useLimit 1 4294967295 then some .badRange else if s.mirrors t then some .keyUsage else none
  else none

/-- Checks 2 to 12 of R299 in order, but for check 8. -/
def State.updateBad (s : State) (t : Nat) (m : UpdateMsg) : Option Status :=
  if m.format ≠ 1 then some .versionMismatch
  else if !UpdateOk m then some .badFormat
  else if m.deviceId ≠ Config.deviceId then some .badRange
  else if m.tenant ≠ t then some .keyTenant
  else if !((s.slot t 1).occ && (s.slot t 2).occ) then some .keyAbsent
  else if !(m.sigAOk && m.sigBOk) then some .badFormat
  else none

/-- Checks 9 to 12 of R299 in order. -/
def State.updateLate (s : State) (t : Nat) (m : UpdateMsg) : Option Status :=
  if m.counter ≠ (s.slot t m.slot).counter + 1 then some .badRange
  else match s.slotRefuses t m with
    | some st => some st
    | none =>
      if m.importId ≠ Tab.get 0 s.vlt.importIds t || (m.action != 3 && !m.decryptOk) then some .badFormat
      else s.attrRefuses t m

/-- The charge in µs of the internal punnet that verifies and decrypts a message (R104, R299): the two verifications once the checks
before them pass, and the envelope of the decapsulation for a payload that is reached. -/
def State.updateCharge (s : State) (t : Nat) (m : UpdateMsg) : Nat :=
  let sigs := m.format == 1 && UpdateOk m && m.deviceId == Config.deviceId && m.tenant == t
    && (s.slot t 1).occ && (s.slot t 2).occ
  let payload := (s.updateBad t m).isNone && m.action != 3 && m.counter == (s.slot t m.slot).counter + 1
    && (s.slotRefuses t m).isNone && m.importId == Tab.get 0 s.vlt.importIds t
  (if sigs then max 2 m.sigTicks else 0) + (if payload then opEnv 0x0103 4 else 0)

/-- Charge a tenant's share for it. -/
def State.chargeUpdate (s : State) (t : Nat) (m : UpdateMsg) : State :=
  s.setShare t ((s.fn t).share.credit (-(Int.ofNat (s.updateCharge t m))))

/-- Check 8 of R299: the message is the one last committed. -/
def State.isApplied (s : State) (t : Nat) (m : UpdateMsg) : Bool :=
  m.counter == (s.slot t m.slot).counter && m.hash == (s.slot t m.slot).hash

/-- The commit of a message that passed (R302). -/
def State.applyUpdate (s : State) (t : Nat) (m : UpdateMsg) : State :=
  let a := stampSecret m.attr
  if m.action = 3 then s.deleteKey t m.slot m.counter m.hash
  else if m.action = 4 then s.putPolicy t m.slot m.counter m.hash a
  else s.putKey 1 m.action t m.slot m.counter m.hash
    { attr := a, len := m.keyLen, limit := if aCounted a then m.useLimit else 0 }

/-- The record of a message fits the heap (step 1 of R302). -/
def State.updateFits (s : State) (t : Nat) (m : UpdateMsg) : Bool :=
  m.action == 3 || s.heapFits (if m.action = 4 then (s.slot t m.slot).len else m.keyLen)

/-- A commit fails (check 13 of R299): the update ends with ST_DEVICE_FAULT and VLT_COMMIT is raised (R392), unless that raise
reset the device. -/
def State.commitFail (s : State) (counts : Bool) : State × Reply :=
  let x := (if counts then (s.reject .deviceFault .none).1 else s).raise 17 0xFF 0
  (x, if s.rnd.level < 4 ∧ 4 ≤ x.rnd.level then .later else .bad .deviceFault .none)

/-- KEY_UPDATE (R299, R301, R453): the address and length of a message. -/
def execKeyUpdate (r : MbReq) (m : UpdateMsg) (s : State) : Host.Outcome State Fault Refusal :=
  .next (s.mbRun 0x0401 r [16] [] fun x0 =>
    let t := r.fn.val
    let y := x0.dmaIn r 0
    let x := y.chargeUpdate t m
    if !y.readable t m.readOk then ((y.reject .ok .none).1, .readFail)
    else match x.updateBad t m with
      | some st => x.reject st .none
      | none =>
        if x.isApplied t m then x.mirrorRound r 0x0401 t m.slot 8
        else match x.updateLate t m with
          | some st => x.reject st .none
          | none =>
            if !x.commits then x.reject .deviceFault .none
            else if !m.commitOk || !x.updateFits t m then x.commitFail true
            else (x.applyUpdate t m).mirrorRound r 0x0401 t m.slot 0)

/-! ## Public imports and authority keys (R291, R300) -/

/-- Commit a public key under a record of TYPE 0x03, with the hash of what was read. -/
def State.importPublic (s : State) (t n : Nat) (a : QWord) (len : Nat) : State :=
  (s.draw 1).putKey 3 0 t n ((s.slot t n).counter + 1) (Config.freeKey s.free) { attr := a, len := len }

/-- KEY_IMPORT_PUBLIC (R300): slot, attribute word, address and length. -/
def execKeyImportPublic (r : MbReq) (keyOk : Bool) (io : ReadCommit) (s : State) : Host.Outcome State Fault Refusal :=
  .next (s.mbRun 0x0402 r [32] [] fun x0 =>
    let t := r.fn.val
    let x := x0.dmaIn r 2
    let n := r.w 0
    let a := stampSecret (r.words.getD 1 0)
    if !x.readable t io.readOk then ((x.reject .ok .none).1, .readFail)
    else if n ≤ 2 || decide ((x.fn t).ten.slots ≤ n) || (x.slot t n).taken then
      x.reject .keyUsage .none
    else if aType a = 0x29 then x.reject .keyUsage .none
    else if !publicTypes.contains (aType a) || !attrOk t n a || aCounted a || !keyOk then x.reject .badRange .none
    else if !x.commits then x.reject .deviceFault .none
    else if !io.commitOk || !x.heapFits (r.w 3) then x.commitFail true
    else (x.importPublic t n a (r.w 3)).mirrorRound r 0x0402 t n 0)

/-- The attribute word and length of an authority key (R291): ML-DSA-87 in slot 1, P-384 in slot 2. -/
def authorityAttr (n : Nat) : QWord :=
  (if n = 1 then attrWord 0x22 0x04 uVerify false else attrWord 0x32 0x02 uVerify false) ||| BitVec.ofNat 64 (2 ^ 24)
def authorityLen (n : Nat) : Nat := if n = 1 then dsaPk 2 else 97

/-- AUTHORITY_SET (R291): tenant, slot 1 or 2 while empty, address and length. -/
def execAuthoritySet (r : MbReq) (keyOk : Bool) (io : ReadCommit) (s : State) : Host.Outcome State Fault Refusal :=
  .next (s.mbRun 0x0408 r [32] [] fun x =>
    let t := r.w 0
    let n := r.w 1
    if 1023 < t ∨ !within n 1 2 then (x, .bad .badRange .none)
    else if (x.fn t).ten.st = .notCreated then (x, .bad .stateRefused .tenantNotCreated)
    else
    let x := x.dmaIn r 2
    if !x.readable 0 io.readOk then (x, .readFail)
    else if (x.slot t n).taken then (x, .bad .keyUsage .none)
    else if r.w 3 ≠ authorityLen n then (x, .bad .badLength .field)
    else if !keyOk then (x, .bad .badRange .none)
    else if !x.commits then (x, .bad .deviceFault .none)
    else if !io.commitOk || !x.heapFits (r.w 3) then x.commitFail false
    else (x.importPublic t n (authorityAttr n) (r.w 3)).mirrorRound r 0x0408 t n 0)

/-! ## Reading keys (R297, R307, R308, R477) -/

/-- The words of KEY_INFO for a slot or blob (R477). -/
def infoWords (occ : Bool) (attr counter : QWord) (uses limit : Nat) : List QWord :=
  if !occ then [0, 0, counter, 0, 0]
  else if aCounted attr then [1, attr, counter, BitVec.ofNat 64 uses, BitVec.ofNat 64 limit]
  else [1, attr, counter, 0, 0]

/-- KEY_INFO (R477), and of slot 0 the public key of the import key (R291). -/
def execKeyInfo (r : MbReq) (s : State) : Host.Outcome State Fault Refusal :=
  .next (s.mbRun 0x0403 r [8] [] fun x =>
    let t := r.fn.val
    let h := r.words.getD 0 0
    let k := x.slot t (hIndex h)
    let b := x.blob t (hIndex h)
    if hTenant h ≠ t then (x, .bad .keyTenant .none)
    else if hLoc h = 1 ∧ hIndex h < 1048576 then (x, .words (infoWords b.occ b.attr b.version 0 0))
    else if hLoc h ≠ 0 ∨ (x.fn t).ten.slots ≤ hIndex h then (x, .bad .badRange .none)
    else if hIndex h = 0 ∧ k.occ then
      (x, .ok 0 (wordBytes (infoWords true k.attr k.counter k.uses k.limit) ++ freeBytes k.keyAt (kemEk 2)))
    else (x, .words (infoWords k.occ k.attr k.counter k.uses k.limit)))

/-- A key held by the vault or the key store, by its handle: attribute word, its public word, length and counter. -/
def State.heldKey (s : State) (h : QWord) : Option (QWord × QWord × Nat × QWord) :=
  let k := s.slot (hTenant h) (hIndex h)
  let b := s.blob (hTenant h) (hIndex h)
  if hBad h then none
  else if hLoc h = 0 then (if k.occ then some (k.attr, k.pub, k.len, k.counter) else none)
  else if hLoc h = 1 then (if b.occ then some (b.attr, b.pub, b.len, b.version) else none)
  else none

/-- The places of the public key and of the private or symmetric key that a handle names. -/
def State.pubPlace (s : State) (h : QWord) : Nat :=
  if hLoc h = 0 then (s.slot (hTenant h) (hIndex h)).keyAt else (s.blob (hTenant h) (hIndex h)).keyAt
def State.keyPlace (s : State) (h a : QWord) : Nat :=
  if !secretTypes.contains (aType a) then s.pubPlace h
  else if hLoc h = 0 then (s.slot (hTenant h) (hIndex h)).secAt else (s.blob (hTenant h) (hIndex h)).secAt

/-- KEY_EXPORT (R297): handle, wrapping-key handle, output address and capacity; the blob's length is returned. -/
def execKeyExport (r : MbReq) (s : State) : Host.Outcome State Fault Refusal :=
  .next (s.mbRun 0x0404 r [32] [] fun x =>
    let t := r.fn.val
    let h := r.words.getD 0 0
    let kek := r.words.getD 1 0
    if hTenant h ≠ t then (x, .bad .keyTenant .none)
    else match x.heldKey h with
      | none => (x, .bad .keyAbsent .none)
      | some (a, _, n, _) =>
        if !aExportable a then (x, .bad .keyUsage .none)
        else match x.wrapBad t kek with
          | some (st, why) => (x, .bad st why)
          | none =>
            if r.w 2 % 64 ≠ 0 then (x, .bad .badRange .none)
            else if r.w 3 < blobBytes n then (x, .bad .badLength .outShort)
            else if !x.commits then (x, .bad .deviceFault .none)
            else (x.dmaOut t (r.words.getD 2 0) (x.wrapped t (hIndex kek) n a (x.keyPlace h a)),
              .words [BitVec.ofNat 64 (blobBytes n)]))

/-- The checks of R297 on a host-held blob. -/
def State.blobBad (s : State) (t : Nat) (b : BlobIn) : Option Status :=
  let k := s.slot t b.kekSlot
  if b.format ≠ 1 then some .versionMismatch
  else if b.tenant ≠ t then some .keyTenant
  else if 8192 ≤ b.kekSlot ∨ !k.occ then some .keyAbsent
  else if !hasAll (aUsage k.attr) uUnwrap then some .keyUsage
  else if !b.tagOk then some .badFormat
  else if !attrOk t 3 b.attr then some .badRange
  else none

/-- KEYSTORE_LOAD (R296, R297): address and length of a host-held blob, and the handle of the destination. -/
def execKeystoreLoad (r : MbReq) (b : BlobIn) (s : State) : Host.Outcome State Fault Refusal :=
  .next (s.mbRun 0x0405 r [24] [] fun x =>
    let t := r.fn.val
    let h := r.words.getD 2 0
    match x.destBad t h 1 b.keyLen with
    | some (st, why) => (x, .bad st why)
    | none =>
      let x := x.dmaIn r 0
      if !x.readable t b.readOk then (x, .readFail)
      else if r.w 1 ≠ blobBytes b.keyLen then (x, .bad .badLength .field)
      else match x.blobBad t b with
        | some st => (x, .bad st .none)
        | none => if x.commits && x.vlt.ksKey then (x.putBlob t (hIndex h) b.attr 0 b.keyLen, .done)
          else (x, .bad .deviceFault .none))

/-- A symmetric key has no public key (R293). -/
def symmetric (a : QWord) : Bool := decide (aType a < 0x20)

/-- The 128-byte body of a key statement (R308). -/
def State.statementBody (s : State) (h a counter : QWord) (nonce : Nat) : List Byte :=
  leBytes 1 1 ++ leBytes 1 s.lcState ++ leBytes 2 (hTenant h) ++ leBytes 8 h.toNat ++ leBytes 8 a.toNat
    ++ leBytes 8 counter.toNat ++ leBytes 4 s.log.opSec ++ leBytes 4 (s.log.pcycle % 2 ^ 24)
    ++ leBytes 16 Config.deviceId.toNat ++ leBytes 12 0
    ++ (if symmetric a then leBytes 48 0 else (List.range 48).map (Config.pkHash (s.pubPlace h))) ++ leBytes 16 nonce

/-- KEY_STATEMENT (R308): handle, the nonce in two words, output address and capacity; the length is returned. The
signatures are free values. -/
def execKeyStatement (r : MbReq) (s : State) : Host.Outcome State Fault Refusal :=
  .next (s.mbRun 0x0406 r [40] [] fun x =>
    let t := r.fn.val
    let h := r.words.getD 0 0
    if hTenant h ≠ t ∧ t ≠ 0 then (x, .bad .keyTenant .none)
    else match x.heldKey h with
      | none => (x, .bad .keyAbsent .none)
      | some (a, _, _, c) =>
        if r.w 4 < 4851 then (x, .bad .badLength .outShort)
        else if !x.vlt.aliasKeys || !x.commits then (x, .bad .deviceFault .none)
        else ((x.dmaOut t (r.words.getD 3 0)
            (x.statementBody h a c (r.w 1 + 2 ^ 64 * r.w 2) ++ freeBytes x.free 4723)).draw 4723,
          .words [4851]))

/-- Bytes of an ML-DSA-87 certificate (R306): 0 that of the DevID, 1 that of the alias key. -/
def State.certBytes (s : State) (which off n : Nat) : List Byte :=
  if which = 0 then (List.range n).map (fun k => Config.devidCert (off + k)) else freeBytes (s.vlt.aliasAt + off) n

/-- CERT_READ (R307): a certificate, an offset and a length. -/
def execCertRead (r : MbReq) (s : State) : Host.Outcome State Fault Refusal :=
  .next (s.mbRun 0x0407 r [24] [] fun x =>
    if 1 < r.w 0 ∨ r.w 1 % 8 ≠ 0 ∨ 65536 < r.w 1 ∨ r.w 2 % 8 ≠ 0 ∨ !within (r.w 2) 8 3776 then (x, .bad .badRange .none)
    else (x, .ok 0 (x.certBytes (r.w 0) (r.w 1) (r.w 2))))

/-! ## Zeroisation (R309) -/

/-- ZEROISE (R309, R340): as ZEROISE, then a warm reset, which discards the request. -/
def execZeroise (r : MbReq) (b : BootIn) (s : State) : Host.Outcome State Fault Refusal :=
  .next (s.mbRun 0x0409 r [0] [] fun x => (((x.adminRecord 0x0409 r .ok).zeroiseKeys 4).warm b, .later))

end Sys2Proof.Machine
end

