-- ==== Sys2Proof/Machine/MailPolicy.lean ====
section
/-! DEFINITION. Policy commands of the PF's mailbox: the legacy gate (R276), the DRBG's PERSO (R319), IDE (R38, R42),
FAULT_POLICY (R399, R405), RIND_POLICY (R374, R381), POWER_POLICY (R430), and LOG_READ (R419). -/

namespace Sys2Proof.Machine

/-! ## Commands with an OPERATION in word 0 -/

/-- A request of a command whose word 0 is an OPERATION; `ops` are its operations with their lengths. A request that
names another operation of the command is another row of the table and changes nothing here (assumption 3). One that names
none is refused with ST_BAD_RANGE after the checks of R337. -/
def State.mbOp (s : State) (code op : Nat) (ops : List (Nat × Nat)) (r : MbReq) (masks : List QWord)
    (k : State → State × Reply) : State :=
  match ops.find? (fun x => x.1 == r.w 0) with
  | some (o, n) => if o = op then s.mbRun code r [n] masks k else s
  | none => s.mbRun code r (ops.map (·.2)) [] (fun t => (t, .bad .badRange .none))

/-- A state change refused with ST_BAD_RANGE where its values are out of range. -/
def rangeOr (ok : Bool) (s t : State) : State × Reply := if ok then (t, .done) else (s, .bad .badRange .none)

/-- No bit of a payload word is reserved. -/
def allOnes : QWord := BitVec.allOnes 64

/-! ## Gates and seeds -/

/-- The legacy gate as the next boundary makes it. -/
def State.legacyDue (s : State) : Word := s.eng.legacyNext.getD s.eng.legacy

/-- A change of the gate that LOCK forbids in FIELDED: a bit set, or LOCK cleared (R276). -/
def State.legacyBarred (s : State) (v : Word) : Bool :=
  s.lcState == 3 && s.legacyDue.getLsbD 31 && ((v &&& ~~~s.legacyDue &&& 0x1F) != 0 || !v.getLsbD 31)

/-- LEGACY_SET (R276): in force at the next tick boundary. -/
def execLegacySet (r : MbReq) (s : State) : Host.Outcome State Fault Refusal :=
  .next (s.mbRun 0x0501 r [8] [0x8000001F] fun t =>
    let v : Word := (r.words.getD 0 0).setWidth 32
    if t.legacyBarred v then (t, .bad .stateRefused (lcReason 3))
    else (t.setEng { t.eng with legacyNext := some v }, .done))

/-- RNG_PERSO (R319): 32 bytes, in force at the next instantiation. -/
def execRngPerso (r : MbReq) (s : State) : Host.Outcome State Fault Refusal :=
  .next (s.mbRun 0x0502 r [32] [] fun t =>
    let v : BitVec 256 := r.words.getD 3 0 ++ r.words.getD 2 0 ++ r.words.getD 1 0 ++ r.words.getD 0 0
    ({ t with nv := { t.nv with perso := v } }, .done))

/-- IDE_POLICY (R38, R42). -/
def execIdePolicy (r : MbReq) (s : State) : Host.Outcome State Fault Refusal :=
  .next (s.mbRun 0x0503 r [8] [1] fun t =>
    ({ t with hif := { t.hif with ideRequire := (r.words.getD 0 0).getLsbD 0 } }, .done))

/-! ## FAULT_POLICY (R405) -/

def faultOps : List (Nat × Nat) := [(1, 32), (2, 32), (3, 16), (4, 24), (5, 16)]

/-- A fault policy waits for the next boundary. -/
def State.laterFault (s : State) (l : List Nat) : State :=
  { s with flt := { s.flt with policyNext := s.flt.policyNext ++ [l] } }

/-- ACTION and ESC_CAP of a source as the next boundary makes them. -/
def State.policyDue (s : State) (n : Nat) : Nat × Nat :=
  let t := s.applyPolicies
  (t.srcAction n, t.srcCap n)

/-- The checks of operation 1 of R405. -/
def State.sourceOk (s : State) (n a c : Nat) : Bool :=
  decide (n < 256) && !srcReserved n && decide (a ≤ 5) && decide (c ≤ 5) && decide (a ≤ c)
    && !(decide (n < 64) && a == 2)
    && (s.lcState != 3 || (decide ((s.policyDue n).1 ≤ a) && decide ((s.policyDue n).2 ≤ c)))

/-- FAULT_POLICY 0x1: source, ACTION, ESC_CAP. -/
def execFaultPolicySetSource (r : MbReq) (s : State) : Host.Outcome State Fault Refusal :=
  .next (s.mbOp 0x0504 1 faultOps r [] fun t =>
    rangeOr (t.sourceOk (r.w 1) (r.w 2) (r.w 3)) t (t.laterFault [1, r.w 1, r.w 2, r.w 3]))

/-- FAULT_POLICY 0x2: grace times of blocks, regions and the chip. -/
def execFaultPolicyGrace (r : MbReq) (s : State) : Host.Outcome State Fault Refusal :=
  .next (s.mbOp 0x0504 2 faultOps r [] fun t =>
    rangeOr (within (r.w 1) 10 1000000 && within (r.w 2) 10 1000000 && within (r.w 3) 10 1000000) t
      (t.laterFault [2, r.w 1, r.w 2, r.w 3]))

/-- FAULT_POLICY 0x3: the quiet time. -/
def execFaultPolicyQuiet (r : MbReq) (s : State) : Host.Outcome State Fault Refusal :=
  .next (s.mbOp 0x0504 3 faultOps r [] fun t => rangeOr (within (r.w 1) 1 60000) t (t.laterFault [3, r.w 1]))

/-- FAULT_POLICY 0x4: COUNT and WINDOW. -/
def execFaultPolicyRecoveryLimit (r : MbReq) (s : State) : Host.Outcome State Fault Refusal :=
  .next (s.mbOp 0x0504 4 faultOps r [] fun t =>
    rangeOr (within (r.w 1) 1 255 && within (r.w 2) 1 65535) t (t.laterFault [4, r.w 1, r.w 2]))

/-- FAULT_POLICY 0x5 (R399): a STUCK source returns its units as a quiet exit would. -/
def execFaultPolicyClearStuck (r : MbReq) (s : State) : Host.Outcome State Fault Refusal :=
  .next (s.mbOp 0x0504 5 faultOps r [] fun t =>
    let n := r.w 1
    if 256 ≤ n ∨ (t.src n).state ≠ 2 then (t, .detail 0x06)
    else ((t.setSrc n { t.src n with state := 0 }).unitsBack n, .done))

/-! ## RIND_POLICY (R374, R381) -/

def rindOps : List (Nat × Nat) := [(1, 24), (2, 16), (3, 16), (4, 16)]

/-- The checks of operation 1 of R381 on a value in the layout of RND_GRP_CFG. -/
def State.groupOk (s : State) (g v : Nat) : Bool :=
  decide (g < 30) && !s.fused g && within (bitsOf v 27 24) 1 15 && within (bitsOf v 13 0) 1 16000
    && decide (bitsOf v 31 29 ≤ 5) && !(bitsOf v 31 29 == 2 && (groupScope g).isNone)

/-- RIND_POLICY 0x1: group and its configuration. -/
def execRindPolicySetGroup (r : MbReq) (s : State) : Host.Outcome State Fault Refusal :=
  .next (s.mbOp 0x0505 1 rindOps r [allOnes, allOnes, 0xEF003FFF] fun t =>
    rangeOr (t.groupOk (r.w 1) (r.w 2)) t
      { t with rnd := { t.rnd with cfg := Tab.put 0x21000001 t.rnd.cfg (r.w 1) (BitVec.ofNat 32 (r.w 2)) } })

/-- A group's fuse is burnt: it makes no events, and its alarm reads 0 (R374). -/
def State.burnFuse (s : State) (g : Nat) : State :=
  let bit : BitVec 30 := BitVec.ofNat 30 (2 ^ g)
  { s with
    nv := { s.nv with fuses := s.nv.fuses ||| bit }
    rnd := { s.rnd with alarm := s.rnd.alarm &&& ~~~bit, present := s.rnd.present &&& ~~~bit
                        stimFail := s.rnd.stimFail &&& ~~~bit
                        events := s.rnd.events.filter (fun e => e.1 / 8 != g) } }

/-- RIND_POLICY 0x2: the fuse of a group (R374). -/
def execRindPolicyBurnFuse (r : MbReq) (s : State) : Host.Outcome State Fault Refusal :=
  .next (s.mbOp 0x0505 2 rindOps r [] fun t => rangeOr (decide (r.w 1 < 30)) t (t.burnFuse (r.w 1)))

/-- TLOW and THIGH of R381. -/
def tempsOk (lo hi : Byte) : Bool :=
  decide (-50 ≤ lo.toInt) && decide (lo.toInt ≤ 0) && within hi.toNat 110 135

/-- RIND_POLICY 0x3: a value in the layout of RND_TEMP_LIMITS. -/
def execRindPolicyTempLimits (r : MbReq) (s : State) : Host.Outcome State Fault Refusal :=
  .next (s.mbOp 0x0505 3 rindOps r [allOnes, 0x00FF00FF] fun t =>
    let v := r.words.getD 1 0
    let lo : Byte := v.extractLsb' 0 8
    let hi : Byte := v.extractLsb' 16 8
    rangeOr (tempsOk lo hi) t { t with rnd := { t.rnd with tlow := lo, thigh := hi } })

/-- RIND_POLICY 0x4: the polarity of the four tamper inputs. -/
def execRindPolicyTampPolarity (r : MbReq) (s : State) : Host.Outcome State Fault Refusal :=
  .next (s.mbOp 0x0505 4 rindOps r [allOnes, 0xF] fun t =>
    ({ t with rnd := { t.rnd with tampPol := (r.words.getD 1 0).extractLsb' 0 4 } }, .done))

/-! ## POWER_POLICY (R430) -/

def powerOps : List (Nat × Nat) := [(1, 16), (2, 32), (3, 16)]

/-- A power policy waits for the next boundary. -/
def State.laterPower (s : State) (l : List Nat) : State :=
  { s with pwr := { s.pwr with policyNext := s.pwr.policyNext ++ [l] } }

/-- POWER_POLICY 0x1: the deepest state. -/
def execPowerPolicyDeepest (r : MbReq) (s : State) : Host.Outcome State Fault Refusal :=
  .next (s.mbOp 0x0506 1 powerOps r [] fun t => rangeOr (within (r.w 1) 1 4) t (t.laterPower [1, r.w 1]))

/-- POWER_POLICY 0x2: the idle times of P2, P3 and P4. -/
def execPowerPolicyIdleTimes (r : MbReq) (s : State) : Host.Outcome State Fault Refusal :=
  .next (s.mbOp 0x0506 2 powerOps r [] fun t =>
    rangeOr (within (r.w 1) 10 1000000 && within (r.w 2) 1 60000 && within (r.w 3) 1 3600) t
      (t.laterPower [2, r.w 1, r.w 2, r.w 3]))

/-- POWER_POLICY 0x3: spread spectrum. -/
def execPowerPolicySpread (r : MbReq) (s : State) : Host.Outcome State Fault Refusal :=
  .next (s.mbOp 0x0506 3 powerOps r [] fun t => rangeOr (decide (r.w 1 ≤ 1)) t (t.laterPower [3, r.w 1]))

/-! ## LOG_READ (R419) -/

/-- The limits of R419 on an offset and a length. -/
def logLimits (off len : Nat) : Bool :=
  off % 8 == 0 && len % 8 == 0 && within len 8 3776 && decide (off + len ≤ 0x100000)

/-- The payload of LOG_READ: LOG_GEN twice, the oldest and newest sequence numbers, and ledger bytes. -/
def State.logBytesAt (s : State) (off len : Nat) : List Byte :=
  wordBytes [regWord s.log.gen, regWord s.log.gen, BitVec.ofNat 64 s.log.oldest.1, s.log.newestSeq.setWidth 64]
    ++ (List.range len).map (fun k => Tab.get 0 s.log.mem (off + k))

/-- LOG_READ (R419): offset and length. -/
def execLogRead (r : MbReq) (s : State) : Host.Outcome State Fault Refusal :=
  .next (s.mbRun 0x0901 r [16] [] fun t =>
    if logLimits (r.w 0) (r.w 1) then (t, .ok 0 (t.logBytesAt (r.w 0) (r.w 1))) else (t, .bad .badRange .none))

end Sys2Proof.Machine
end

