-- ==== Sys2Proof/Machine/MailLife.lean ====
section
/-! DEFINITION. Life-cycle commands of the PF's mailbox: LC_TRANSITION with the life-cycle reset that follows (R359, R361),
and RECOVERY (R386). -/

namespace Sys2Proof.Machine

/-- A tenant that a transition permits: not created, or suspended with nothing outstanding (check 4 of R359). -/
def State.tenantQuiet (s : State) (f : Nat) (r : FnRec) : Bool :=
  r.ten.st == .notCreated
    || (r.ten.st == .suspended && r.share.backlog == 0 && !(s.orc.items.any (fun it => it.fn == f)))

/-- Every tenant from 1 on is quiet. -/
def State.tenantsQuiet (s : State) : Bool := s.fns.all (fun e => e.1 == 0 || s.tenantQuiet e.1 e.2)

/-- A reload, a staging or an activation is in progress (R338). -/
def State.mpBusy (s : State) : Bool := s.mp.rlBusy || s.mp.staging || s.mp.actReq.isSome

/-- LC_TRANSITION (R359): the host address and length of a token. A token that passes stands in the token buffer, and the
life-cycle reset follows 10 ms later. -/
def execLcTransition (r : MbReq) (tok : Token) (readOk : Bool) (s : State) : Host.Outcome State Fault Refusal :=
  .next (s.mbRun 0x0601 r [16] [] fun t =>
    if r.w 1 ≠ 7540 then (t, .bad .badLength .field)
    else
    let t := t.dmaIn r 0
    if !t.readable 0 readOk then (t, .readFail)
    else match t.tokenBad tok t.lc.nonce with
      | some (st, why) => (t, .bad st why)
      | none =>
        if tok.action ≠ 1 then (t, .bad .stateRefused (lcReason t.lcState))
        else if !t.tenantsQuiet then (t, .detail 0x06)
        else if t.mpBusy then (t, .detail 0x01)
        else ({ t with lc := { t.lc with token := some tok, schedLc := some (t.now + 10000) } }, .done))

/-- An instant has come. -/
def State.due (s : State) (x : Option Nat) : Bool :=
  match x with
  | some n => decide (n ≤ s.now)
  | none => false

/-- LC_RESET (R359, R386): 10 ms after LC_TRANSITION or RECOVERY with a token the life-cycle reset begins, and 10 ms after
RECOVERY without one the warm reset. -/
def execLcReset (b : BootIn) (s : State) : Host.Outcome State Fault Refusal :=
  .next (
    if !s.up then s
    else if s.due s.lc.schedLc then s.lifeReset b
    else if s.due s.lc.schedWarm then s.warm b
    else s)

/-- RECOVERY without a token is accepted: no HOLD, and no set alarm bit is present (R386). -/
def State.plainRecovery (s : State) : Bool := !s.rnd.hold && (s.rnd.alarm &&& s.presentNow) == 0

/-- The checks of a recovery token in the order of R359 and then R357 (assumption 22). -/
def State.recoveryBad (s : State) (k : Token) : Option (Status × Reason) :=
  match s.tokenBad k s.lc.nonce with
  | some x => some x
  | none =>
    if k.action ≠ 3 then some (.stateRefused, lcReason s.lcState)
    else if !s.tokenSigsOk k then some (.badFormat, .none)
    else none

/-- RECOVERY with a token clears HOLD, the latch and every alarm bit (R386). -/
def State.recovered (s : State) : State :=
  { s with
    rnd := { s.rnd with hold := false, latch := [], latchOvf := 0, alarm := 0 }
    lc := { s.lc with schedLc := some (s.now + 10000) } }

/-- RECOVERY (R386): the address and length of a token, or no payload. -/
def execRecovery (r : MbReq) (tok : Option Token) (readOk : Bool) (s : State) : Host.Outcome State Fault Refusal :=
  .next (s.mbRun 0x0602 r [0, 16] [] fun t =>
    if r.len = 0 then
      if t.plainRecovery then
        ({ t with rnd := { t.rnd with alarm := 0 }, lc := { t.lc with schedWarm := some (t.now + 10000) } }, .done)
      else (t, .detail 0x06)
    else if r.w 1 ≠ 7540 then (t, .bad .badLength .field)
    else match tok with
      | none => (t, .readFail)
      | some k =>
        let t := t.dmaIn r 0
        if !t.readable 0 readOk then (t, .readFail)
        else match t.recoveryBad k with
          | some (st, why) => (t, .bad st why)
          | none => (t.recovered, .done))

end Sys2Proof.Machine
end

