-- ==== Sys2Proof/Machine/MailFirm.lean ====
section
/-! DEFINITION. Firmware and unit commands of the PF's mailbox: FW_STAGE to FW_RESTART (R343, R345, R347), region reload
and reset (R348, R349, R478), UNIT_SERVICE (R116, R399, R477) and WARM_RESET (R116). -/

namespace Sys2Proof.Machine

/-! ## Firmware banks -/

/-- The inactive bank. -/
def State.idleBank (s : State) : Bank := if s.mp.activeB then s.mp.bankA else s.mp.bankB

def State.setIdleBank (s : State) (b : Bank) : State :=
  if s.mp.activeB then { s with mp := { s.mp with bankA := b } } else { s with mp := { s.mp with bankB := b } }

/-- Checks 1 to 7 of R343 on an image of `len` bytes. -/
def State.imageBad (s : State) (len : Nat) (i : FwImage) : Option (Status × Reason) :=
  if 4194304 < len ∨ len ≠ 4979 + i.fwLen + i.ucodeLen + i.tableLen then some (.badLength, .field)
  else if i.format ≠ 1 ∨ i.deviceRev ≠ 0xB0 then some (.versionMismatch, .none)
  else if !i.stateMask.testBit (s.lcState - 1) then some (.stateRefused, lcReason s.lcState)
  else if i.svn < s.nv.svnMin then some (.versionMismatch, .none)
  else if !i.sigsOk ∨ !i.digestsOk ∨ (s.lcState = 3 ∧ !i.tableOk) then some (.badFormat, .none)
  else none

/-- The bank that an image makes; byte k of its digests is `Config.freeByte (dig + k)`. -/
def bankOf (i : FwImage) (dig : Nat) : Bank :=
  { valid := true, svn := i.svn, major := i.major, minor := i.minor, patch := i.patch, stateMask := i.stateMask
    families := i.familyMask, bundle := i.bundleVersion, fwLen := i.fwLen, ucodeLen := i.ucodeLen, tableLen := i.tableLen
    dig := dig }

/-- FW_STAGE (R343): the address and length of an image for the inactive bank, which is invalid from the first write until
every check has passed. The copy is in progress (STAGING) until the step in which the checks are made (assumption 10). -/
def execFwStage (r : MbReq) (img : FwImage) (readOk : Bool) (s : State) : Host.Outcome State Fault Refusal :=
  .next (s.mbRun 0x0701 r [16] [] fun t =>
    if t.mpBusy then (t, .detail 0x01)
    else if t.mp.trial then (t, .detail 0x03)
    else
      let x := (t.setIdleBank { t.idleBank with valid := false }).dmaIn r 0
      if !t.readable 0 readOk then (x, .readFail)
      else ({ x with mp := { x.mp with staging := true, stage := some (r, img) } }, .later))

/-- The end of a FW_STAGE in progress (R343): the checks, then the bank and the answer. A request that a function reset
discarded (R334) leaves the bank invalid. -/
def State.stageEnd (s : State) : State :=
  match s.mp.stage with
  | none => s
  | some (r, img) =>
    let x := { s with mp := { s.mp with staging := false, stage := none } }
    match x.imageBad (r.w 1) img with
    | some (st, why) => x.answer 0x0701 r (.bad st why)
    | none => ((x.setIdleBank (bankOf img x.free)).draw 144).answer 0x0701 r .done

/-- FW_ACTIVATE (R345): the inactive bank becomes the active bank, on trial, and firmware restarts from it. The firmware
that comes up answers. -/
def execFwActivate (r : MbReq) (s : State) : Host.Outcome State Fault Refusal :=
  .next (s.mbRun 0x0702 r [0] [] fun t =>
    if t.mpBusy then (t, .detail 0x01)
    else if !t.idleBank.valid then (t, .detail 0x04)
    else
      let x := { t with mp := { t.mp with activeB := !t.mp.activeB, trial := true, reverted := false
                                          actReq := some (0, 0x0702, r.token) } }
      (x.fwStop 2 false, .later))

/-- RAISE_SVN (R345): the OTP minimum rises to the active bank's SVN, and a bank below it becomes invalid. -/
def State.raiseSvn (s : State) : State :=
  let n := max s.nv.svnMin s.activeBank.svn
  let x := s.idleBank
  ({ s with nv := { s.nv with svnMin := n } }).setIdleBank { x with valid := x.valid && decide (n ≤ x.svn) }

/-- FW_CONFIRM (R345): the trial ends. -/
def execFwConfirm (r : MbReq) (s : State) : Host.Outcome State Fault Refusal :=
  .next (s.mbRun 0x0703 r [8] [1] fun t =>
    let x := { t with mp := { t.mp with trial := false } }
    (if (r.words.getD 0 0).getLsbD 0 then x.raiseSvn else x, .done))

/-- FW_RESTART (R347). -/
def execFwRestart (r : MbReq) (s : State) : Host.Outcome State Fault Refusal :=
  .next (s.mbRun 0x0704 r [0] [] fun t =>
    ({ t with mp := { t.mp with actReq := some (0, 0x0704, r.token) } }.fwStop 1 false, .later))

/-! ## Regions -/

/-- The family that a FAMILY word names, where the active bundle holds it (R478). -/
def State.familyOf (s : State) (w : Nat) : Option Nat :=
  let m := s.activeBank.families
  if w = 0x10 then (if m = 0 then none else some (highestFam m))
  else if w < 16 ∧ m.getLsbD w then some w else none

/-- Region and drain limit of R348. -/
def reloadRange (r : MbReq) : Bool := decide (r.w 0 < 4) && within (r.w 2) 100 10000

/-- A reload or reset of a region begins: it drains, or goes past the drain where it is out of service already. -/
def State.startReload (s : State) (r : MbReq) (reset : Bool) (choice : Option Nat) : State :=
  let g : Fin 4 := ⟨r.w 0 % 4, Nat.mod_lt _ (by decide)⟩
  let s1 := { s with mp := { s.mp with
    rlReq := some (0, if reset then 0x0706 else 0x0705, r.token), rlBusy := true, rlStep := 1, rlRegion := g
    rlBack := r.w 1 % 2 == 1, rlStart := s.now, rlLimit := r.w 2, rlReset := reset, rlArgs := r.words } }
  let x := s1.region g.val
  let y := { x with choice := choice.orElse (fun _ => x.choice) }
  if x.inService then (s1.setRegion g.val { y with draining := true }).rehome
  else if reset then (s1.setRegion g.val y).finishReset g.val
  else (s1.beginLoad g.val).setRegion g.val { y with reloading := true, draining := false }

/-- The checks that REGION_RELOAD and REGION_RESET share (R349), then the start. A request for the region whose reload goes
on without a request answers when that reload ends. -/
def State.reloadRun (s : State) (r : MbReq) (reset : Bool) (choice : Option Nat) : State × Reply :=
  if s.mp.rlBusy then
    if s.mp.rlReq.isNone && s.mp.rlRegion.val == r.w 0 && s.mp.rlReset == reset then
      ({ s with mp := { s.mp with rlReq := some (0, if reset then 0x0706 else 0x0705, r.token) } }, .later)
    else (s, .detail 0x01)
  else if (s.region (r.w 0)).inService && !s.othersServe (r.w 0) then (s, .detail 0x02)
  else (s.startReload r reset choice, .later)

/-- REGION_RELOAD (R348, R349, R478): region, SWITCH_BACK, drain limit and FAMILY. -/
def execRegionReload (r : MbReq) (s : State) : Host.Outcome State Fault Refusal :=
  .next (s.mbRun 0x0705 r [32] [allOnes, 1] fun t =>
    if !reloadRange r then (t, .bad .badRange .none)
    else if r.w 1 % 2 = 1 then t.reloadRun r false none
    else match t.familyOf (r.w 3) with
      | none => (t, .bad .badRange .none)
      | some f => t.reloadRun r false (some f))

/-- REGION_RESET (R116, R348, R477). -/
def execRegionReset (r : MbReq) (s : State) : Host.Outcome State Fault Refusal :=
  .next (s.mbRun 0x0706 r [32] [allOnes, 0, allOnes, 0] fun t =>
    if reloadRange r then t.reloadRun r true none else (t, .bad .badRange .none))

/-! ## Units -/

/-- The class of a UNIT_CLASS code (R96). -/
def classOf (n : Nat) : Option UnitClass :=
  if n = 1 then some .pip else if n = 2 then some .med else if n = 3 then some .cip else if n = 4 then some .dig else none

/-- A unit leaves service by command; its job ends first (R116). -/
def State.unitOut (s : State) (c : UnitClass) (n : Nat) : State :=
  (s.setCell c n { s.cell c n with inService := false, outAdmin := true, waiting := none }).unitGone c n

/-- A source lets go of a unit; a STUCK one that holds nothing more is IDLE again (R399). -/
def SrcRec.release (x : SrcRec) (u : UnitClass × Nat) : SrcRec :=
  if x.out.contains u then
    let l := x.out.filter (fun v => v != u)
    { x with out := l, state := if x.state = 2 ∧ l.isEmpty ∧ !x.regionOut then 0 else x.state }
  else x

/-- A unit returns to service by command (R116, R399). -/
def State.unitIn (s : State) (c : UnitClass) (n : Nat) : State :=
  let s0 := s.unitReset c n
  let s1 := { s0 with flt := { s0.flt with srcs := tabMap {} (fun x => x.release (c, n)) s0.flt.srcs } }
  (s1.setCell c n { s1.cell c n with inService := true, outAdmin := false, outFault := false }).rehome

/-- Taking a unit out would leave no region in service (R349). -/
def State.lastUnit (s : State) (c : UnitClass) (n : Nat) : Bool :=
  let g := unitRegion c n
  (s.region g).inService && !s.othersServe g
    && (s.setCell c n { s.cell c n with inService := false }).regionDead g

/-- UNIT_SERVICE (R477): UNIT_CLASS, unit, and 1 to return it or 0 to take it out. R477 names no other value of the third word; the
model holds the bits above bit 0 reserved and refuses them as R6 does (DESIGN CHOICE, assumption 31). -/
def execUnitService (r : MbReq) (s : State) : Host.Outcome State Fault Refusal :=
  .next (s.mbRun 0x0707 r [24] [allOnes, allOnes, 1] fun t =>
    match classOf (r.w 0) with
    | none => (t, .bad .badRange .none)
    | some c =>
      if classCount c ≤ r.w 1 then (t, .bad .badRange .none)
      else if r.w 2 = 1 then (t.unitIn c (r.w 1), .done)
      else if t.lastUnit c (r.w 1) then (t, .detail 0x02)
      else (t.unitOut c (r.w 1), .done))

/-- WARM_RESET (R116, R340): the reset discards the request. -/
def execWarmReset (r : MbReq) (b : BootIn) (s : State) : Host.Outcome State Fault Refusal :=
  .next (s.mbRun 0x0708 r [0] [] fun t => ((t.adminRecord 0x0708 r .ok).warm b, .later))

end Sys2Proof.Machine
end

