-- ==== Sys2Proof/Machine/Cycle.lean ====
section
/-! DEFINITION. One cycle of ENG_CLK, which the block performs where no command waits (assumption 2): the generators deliver (R132,
R225), the engines issue their microwords (R141 to R144), and a load of control stores that met no error ends (R348). -/

namespace Sys2Proof.Machine

/-! ## Fresh randomness -/

/-- A generator's delivery to the engines of its cluster or pair (R132, R225); until it is seeded it delivers nothing (R134). -/
def State.deliverTo (s : State) (medlar : Bool) (b : Nat) : State :=
  let c := if medlar then UnitClass.med else UnitClass.pip
  let n := if medlar then 2 else 8
  if (s.gen (genOf medlar b)).seeded then
    let l := deliver c ((List.range n).map (fun i => (s.cell c (n * b + i)).core.maskBits))
    (List.range n).foldl (fun a i =>
      let k := a.cell c (n * b + i)
      a.setCell c (n * b + i) { k with core := { k.core with maskBits := l.getD i 0 } }) s
  else s

/-! ## Microwords -/

/-- What a fetch answers: the decoded word, how many of its segments were put right, and whether one could not be. -/
structure Fetch where
  word : Word_
  fixed : Nat
  bad : Bool

def Fetch.of (w : Word_) (l : List EccOut) : Fetch := { word := w, fixed := (l.filter (· == .corrected)).length, bad := l.contains .bad }

/-- Fetch the word at an engine's program counter from its active bank: the bundle's word with the bits that stand flipped (R143,
R149, R226, R227). -/
def State.fetchMicro (s : State) (c : UnitClass) (n : Nat) : Fetch :=
  let pc := (s.cell c n).core.pc
  if c = .med then
    let k := s.cluster (16 + n / 8)
    let a := pc % 1024
    let w := Config.medWord k.family k.version a ^^^ (Tab.get 0 k.flips (2048 * (n % 8) + 1024 * flag k.activeB + a)).setWidth 128
    .of (medDecode (medFix w)) (medFetch w)
  else
    let k := s.cluster (n / 8)
    let a := pc % 8192
    let w := Config.pipWord k.family k.version a ^^^ Tab.get 0 k.flips (8192 * flag k.activeB + a)
    .of (pipDecode (wordFix w)) (wordFetch w)

/-- The microcode job of an engine. -/
def State.microJob (s : State) (c : UnitClass) (n : Nat) : MicroJob :=
  let k := s.cluster (if c = .med then 16 + n / 8 else n / 8)
  { cls := c, family := k.family, version := k.version, op := (s.cell c n).core.op, param := (s.cell c n).core.param }

/-- An engine has a word to issue: it runs a job, scrubs nothing and has not come to its end. -/
def Cell.issues (k : Cell) : Bool := k.job.isSome && !k.scrubbing && !k.core.ended

/-- FAIL of an engine's microcode (R141, R172); a job whose end is already fixed only scrubs. -/
def State.microFail (s : State) (c : UnitClass) (n : Nat) : State :=
  match s.runningJob c n with
  | some (it, st) => s.invarFail c n it st
  | none => s.beginScrub c n true

/-- The word at an engine's program counter comes to issue (R141 to R145): a request that waits stops it at a SAFE word, which then
does not issue. -/
def State.issueWord (s : State) (c : UnitClass) (n : Nat) : State :=
  let f := s.fetchMicro c n
  let s1 := s.countFixed (if c = .med then 16 + n / 8 else n / 8) f.fixed
  if f.bad then s1.unitFault c n 0
  else if f.word.safe && s1.stopPending c n then s1.beginScrub c n true
  else match (s1.microJob c n).issue (s1.cell c n) f.word s1.free with
    | .next k => (s1.setCell c n k).draw (65536 * f.word.calls.length)
    | .stall k => s1.setCell c n k
    | .fault => s1.unitFault c n 0
    | .fail k => (s1.setCell c n k).microFail c n

/-- One cycle of an engine. While its key loads it stands at a SAFE word, as R144 has it, and a request stops it there. -/
def State.engineCycle (s : State) (c : UnitClass) (n : Nat) : State :=
  let k := s.cell c n
  if !k.issues then s
  else if 0 < k.core.key.left then
    (if s.stopPending c n then s.beginScrub c n true else s.setCell c n k.loadBlock)
  else s.issueWord c n

/-! ## The cycle -/

/-- Engines are clocked: the main domain is up and no deeper than P1 (R423). -/
def State.clocked (s : State) : Bool := s.up && decide (s.pwr.state < 2)

/-- The load of a reload ends without an error, its banks switch and its tests begin (steps 3 and 4 of R348; R149, R150). -/
def State.loadsEnd (s : State) : State :=
  if s.reloadAt s.mp.rlRegion.val 2 then s.toTests s.mp.rlRegion.val else s

/-- One cycle of ENG_CLK. A FW_STAGE in progress ends with it (assumption 10). -/
def State.cycle (s : State) : State :=
  if s.clocked then
    let s1 := (List.range 16).foldl (fun a b => (a.deliverTo false b).deliverTo true b) s
    let s2 := (List.range 128).foldl (fun a n => a.engineCycle .pip n) s1
    ((List.range 32).foldl (fun a n => a.engineCycle .med n) s2).loadsEnd.stageEnd
  else s.stageEnd

end Sys2Proof.Machine
end

