-- ==== Sys2Proof/Machine/Group.lean ====
section
/-! DEFINITION. GROUP_CONFIG (R443, R446, R448 to R450, R455, R456): membership of a replication group. -/

namespace Sys2Proof.Machine

/-- The operations of R448 with the lengths of their requests. -/
def groupOps : List (Nat × Nat) :=
  [(1, 32), (2, 24), (3, 40), (4, 24), (5, 24), (6, 24), (7, 16), (8, 16), (9, 24), (10, 16)]

/-- A change of view (R455, R459): the epoch counts, and quorum is looked at again. -/
def State.viewChanged (s : State) : State := (s.setGrp { s.grp with epoch := s.grp.epoch + 1 }).checkQuorum

/-- The slot of a peer in this device's mirror window (R450). -/
def peerSlot (i : Nat) : Nat := 1024 * i

/-- A member is out of the group: its record and its slot of the window go, and a change of view is counted. -/
def State.dropPeer (s : State) (i : Nat) : State :=
  let was := (s.peer i).inService
  let s1 := s.setGrp { s.grp with
    peers := Tab.drop s.grp.peers i
    window := s.grp.window.filter (fun e => e.1 / 1024 != i) }
  if was then s1.viewChanged else s1.checkQuorum

/-- A member by its index. -/
def State.isMember (s : State) (i : Nat) : Bool := decide (i < 64) && (s.peer i).member

/-! ## Joining -/

/-- GROUP_CONFIG 0x1 CREATE: GROUP_ID, QUORUM, MIRROR_TO. -/
def execGroupCreate (r : MbReq) (s : State) : Host.Outcome State Fault Refusal :=
  .next (s.mbOp 0x0801 1 groupOps r [] fun t =>
    if r.w 1 = 0 ∨ !within (r.w 2) 1 64 ∨ !within (r.w 3) 1 1000 then (t, .bad .badRange .none)
    else if t.grp.member then (t, .detail 0x06)
    else if !t.commits then (t, .bad .deviceFault .none)
    else ((t.setGrp { t.grp with
      member := true, index := 0, groupId := r.words.getD 1 0, quorum := r.w 2, mirrorTo := r.w 3, epoch := 0, gk := true
      joinOpen := false, peers := [], window := [] }).checkQuorum, .done))

/-- A host buffer takes `need` open bytes, or is too small (R448): the length is answered. -/
def State.giveBlob (s : State) (addr : QWord) (need cap : Nat) : State × Reply :=
  if cap < need then (s, .bad .badLength .outShort)
  else ((if (s.fn 0).port.bme then s.emit (.data 0 addr need s.free) else s).draw need, .words [BitVec.ofNat 64 need])

/-- GROUP_CONFIG 0x2 JOIN_REQUEST: output address and capacity. The spec gives the request no length; it is a free value. -/
def execGroupJoinRequest (r : MbReq) (s : State) : Host.Outcome State Fault Refusal :=
  .next (s.mbOp 0x0801 2 groupOps r [] fun t =>
    if t.grp.member then (t, .detail 0x06)
    else
      let x := (t.draw 1).giveBlob (r.words.getD 1 0) (Config.freeWord t.free).toNat (r.w 2)
      (x.1.setGrp { x.1.grp with joinOpen := x.1.grp.joinOpen || (match x.2 with
        | .ok _ _ => true
        | _ => false) }, x.2))

/-- The checks of R449 on a join request or an ADMIT blob: its form, its signatures, and its sender's state and IKH. -/
def State.peerBad (s : State) (formatOk sigsOk : Bool) (state : Nat) (ikh : BitVec 384) : Option (Status × Reason) :=
  if !formatOk || !sigsOk then some (.badFormat, .none)
  else if state ≠ s.lcState ∨ ikh ≠ s.lc.ikh then some (.badRange, .none)
  else none

/-- An index is free, and no member has the device ID (check 4 of R449). -/
def State.admits (s : State) (i : Nat) (id : BitVec 128) : Bool :=
  i != s.grp.index && !(s.peer i).member && id != Config.deviceId
    && s.grp.peers.all (fun e => !(e.2.member && e.2.deviceId == id))

/-- GROUP_CONFIG 0x3 ADMIT: request address and length, new index and output address. -/
def execGroupAdmit (r : MbReq) (readOk formatOk sigsOk : Bool) (state : Nat) (ikh : BitVec 384) (deviceId : BitVec 128)
    (s : State) : Host.Outcome State Fault Refusal :=
  .next (s.mbOp 0x0801 3 groupOps r [] fun t =>
    let i := r.w 3
    if 64 ≤ i then (t, .bad .badRange .none)
    else if !t.grp.member then (t, .detail 0x06)
    else
    let t := t.dmaIn r 1
    if !t.readable 0 readOk then (t, .readFail)
    else match t.peerBad formatOk sigsOk state ikh with
      | some (st, why) => (t, .bad st why)
      | none =>
        if !t.admits i deviceId then (t, .bad .badRange .none)
        else
          let x := t.setPeer i { member := true, deviceId := deviceId }
          let n := (Config.freeWord x.free).toNat
          (((if (x.fn 0).port.bme then x.emit (.data 0 (r.words.getD 4 0) n (x.free + 1)) else x).draw (n + 1)).checkQuorum,
            .done))

/-- A resync from a source begins (R456): its slots are to be named, and RESYNC_REQ goes out. -/
def State.startResync (s : State) (i : Nat) : State :=
  let m := s.grp.mseq + 1
  ((s.setGrp { s.grp with resyncing := some i, named := [], mseq := m }).queueFrame i 0x04 m 0 0 0).refresh

/-- GROUP_CONFIG 0x4 ACCEPT: blob address and length. The device joins, and resyncs from the admitting member. -/
def execGroupAccept (r : MbReq) (readOk formatOk sigsOk : Bool) (state : Nat) (ikh : BitVec 384) (groupId : QWord)
    (index admitter : Fin 64) (quorum mirrorTo : Nat) (deviceId : BitVec 128) (s : State) :
    Host.Outcome State Fault Refusal :=
  .next (s.mbOp 0x0801 4 groupOps r [] fun t =>
    if t.grp.member || !t.grp.joinOpen then (t, .detail 0x06)
    else
    let t := t.dmaIn r 1
    if !t.readable 0 readOk then (t, .readFail)
    else match t.peerBad formatOk sigsOk state ikh with
      | some (st, why) => (t, .bad st why)
      | none =>
        if !t.commits then (t, .bad .deviceFault .none)
        else
          let x := t.setGrp { t.grp with
            member := true, index := index.val, groupId := groupId, quorum := quorum, mirrorTo := mirrorTo, epoch := 0
            gk := true, joinOpen := false, window := []
            peers := [(admitter.val, { member := true, deviceId := deviceId })] }
          ((x.checkQuorum).startResync admitter.val, .done))

/-! ## Paths and tenants -/

/-- GROUP_CONFIG 0x5 PEER: index and the address of its mirror window, or 0 for relay. It names the peer a member. -/
def execGroupPeer (r : MbReq) (s : State) : Host.Outcome State Fault Refusal :=
  .next (s.mbOp 0x0801 5 groupOps r [] fun t =>
    let i := r.w 1
    if 64 ≤ i then (t, .bad .badRange .none)
    else if !t.grp.member || i == t.grp.index then (t, .detail 0x06)
    else (t.setPeer i { t.peer i with member := true, addr := r.words.getD 2 0 }, .done))

/-- GROUP_CONFIG 0x6 MIRROR_TENANT: tenant, and 1 on or 0 off. -/
def execGroupMirrorTenant (r : MbReq) (s : State) : Host.Outcome State Fault Refusal :=
  .next (s.mbOp 0x0801 6 groupOps r [] fun t =>
    let n := r.w 1
    if !within n 1 1023 ∨ 1 < r.w 2 then (t, .bad .badRange .none)
    else if !t.grp.member then (t, .detail 0x06)
    else if (t.fn n).ten.st = .notCreated then (t, .bad .stateRefused .tenantNotCreated)
    else ((t.setTen n { (t.fn n).ten with mirrored := r.w 2 == 1 }).refreshFn n, .done))

/-- GROUP_CONFIG 0x9 RELAY_RING (R450): ring address and entries. -/
def execGroupRelayRing (r : MbReq) (s : State) : Host.Outcome State Fault Refusal :=
  .next (s.mbOp 0x0801 9 groupOps r [] fun t =>
    rangeOr ([16, 32, 64, 128, 256, 512, 1024, 2048, 4096].contains (r.w 2)) t
      (t.setGrp { t.grp with ringAddr := r.words.getD 1 0, ringLen := r.w 2, ringPos := 0 }))

/-- GROUP_CONFIG 0xA SIDEBAND_ID (R443, R448): INSTANCE, in INTEGRATOR alone. -/
def execGroupSidebandId (r : MbReq) (s : State) : Host.Outcome State Fault Refusal :=
  .next (s.mbOp 0x0801 10 groupOps r [] fun t =>
    if t.lcState ≠ 2 then (t, .bad .stateRefused (lcReason t.lcState))
    else rangeOr (decide (r.w 1 < 65536)) t
      { t with nv := { t.nv with sbInstance := BitVec.ofNat 16 (r.w 1), sbInstanceSet := true } })

/-! ## Frames that leave -/

/-- A member may send (R452); nothing is written while the link is down (R39), or without the PF's Bus Master Enable
(assumption 29). -/
def State.maySend (s : State) : Bool := s.up && s.hif.linkUp && s.grp.member && !s.halted && (s.fn 0).port.bme

/-- A path to a peer: its window's address, or a relay ring (R450). -/
def State.hasPath (s : State) (i : Nat) : Bool := (s.peer i).addr != 0 || decide (0 < s.grp.ringLen)

/-- Use the next entry of the relay ring. -/
def State.relayEntry (s : State) (i off len : Nat) (v : QWord) : State :=
  (s.setGrp { s.grp with ringPos := (s.grp.ringPos + 1) % s.grp.ringLen }).emit
    (.relay 0 s.grp.ringAddr s.grp.ringPos i off len v)

/-- Write a frame to a peer's window, or through the ring (R450, R451). -/
def State.writeFrame (s : State) (i typ : Nat) (mseq : QWord) (tenant slot result : Nat) : State :=
  let p := s.peer i
  let n := p.tx + 1
  let s1 := s.setPeer i { p with tx := n }
  let s2 := if p.addr = 0 then s1.relayEntry i (peerSlot s.grp.index) 960 0 else s1
  s2.emit (.frame 0 (if p.addr = 0 then s.grp.ringAddr else p.addr + BitVec.ofNat 64 (peerSlot s.grp.index)) typ s.grp.index i n
    mseq tenant slot result)

/-! ## Leaving and rejoining -/

/-- The device leaves: LEAVE to every member it has a path to, then GK and the settings go (R448). -/
def State.leaveGroup (s : State) : State :=
  let s1 := if s.maySend then
      (s.others.filter s.hasPath).foldl (fun a i => a.writeFrame i 0x06 (s.grp.mseq + 1) 0 0 0) s
    else s
  let s2 := s1.grp.pending.foldl (fun a w => (a.endRound w .deviceFault).roundFails true) s1
  s2.endGroup.refresh

/-- GROUP_CONFIG 0x7 REMOVE: index; the device's own makes it leave. -/
def execGroupRemove (r : MbReq) (s : State) : Host.Outcome State Fault Refusal :=
  .next (s.mbOp 0x0801 7 groupOps r [] fun t =>
    let i := r.w 1
    if 64 ≤ i then (t, .bad .badRange .none)
    else if !t.grp.member then (t, .detail 0x06)
    else if i = t.grp.index then (t.leaveGroup, .done)
    else if !t.isMember i then (t, .detail 0x06)
    else (t.dropPeer i, .done))

/-- GROUP_CONFIG 0x8 REJOIN: source index. It answers when the resync ends. -/
def execGroupRejoin (r : MbReq) (s : State) : Host.Outcome State Fault Refusal :=
  .next (s.mbOp 0x0801 8 groupOps r [] fun t =>
    let i := r.w 1
    if 64 ≤ i then (t, .bad .badRange .none)
    else if !t.grp.member || !t.isMember i || i == t.grp.index then (t, .detail 0x06)
    else
      let x := t.startResync i
      (x.setGrp { x.grp with req := some r.token }, .later))

end Sys2Proof.Machine
end

