-- ==== Sys2Proof/Machine/Frames.lean ====
section
/-! DEFINITION. Pritan frames that arrive and leave (R450 to R452, R454 to R457) and the timers of a group (R452, R453,
R455). -/

namespace Sys2Proof.Machine

/-! ## Taking a frame -/

/-- A frame that fails (R451): counted, and GRP_MIRROR raised. -/
def State.rejectFrame (s : State) : State :=
  (s.setGrp { s.grp with frameRej := satSucc s.grp.frameRej }).raise 37 0xFF 0

/-- The CONSUMED word goes to a peer's window, or through the ring (R450), unless the PF may not write (assumption 29). -/
def State.writeConsumed (s : State) (i : Nat) (v : QWord) : State :=
  let p := s.peer i
  let off := peerSlot s.grp.index + 960
  if !(s.fn 0).port.bme then s
  else if p.addr ≠ 0 then s.emit (.bytes 0 (p.addr + BitVec.ofNat 64 off) (leBytes 8 v.toNat))
  else if 0 < s.grp.ringLen then s.relayEntry i off 8 v
  else s

/-- The header and the tag of a frame pass: it is for this member of this group, from a member, next in sequence. -/
def State.frameOk (s : State) (f : Frame) : Bool :=
  f.format == 1 && f.tagOk && f.receiver.val == s.grp.index && f.groupId == s.grp.groupId
    && f.sender.val != s.grp.index && s.isMember f.sender.val && f.fseq == (s.peer f.sender.val).rx + 1
    && f.mark == f.fseq && decide (f.fragIdx < f.fragCnt) && decide (f.len ≤ 896)

/-- A frame of this type is heard from this sender (R455, R456): a member that fell silent is heard only for RESYNC_REQ, and
as the source of a resync. A member heard for the first time comes into view. -/
def State.hears (s : State) (f : Frame) : Bool :=
  let p := s.peer f.sender.val
  p.inService || p.rx == 0 || f.typ == 0x04 || s.grp.resyncing == some f.sender.val

/-- The sequence of a good frame advances, and CONSUMED follows its FSEQ (R450, R451). -/
def State.frameCame (s : State) (f : Frame) : State :=
  (s.setPeer f.sender.val { s.peer f.sender.val with rx := f.fseq }).writeConsumed f.sender.val f.fseq

/-- A frame that is heard: its sender is in the view, and one heard for the first time comes into it (R455). -/
def State.inView (s : State) (f : Frame) : State :=
  let i := f.sender.val
  let p := s.peer i
  let s1 := s.frameCame f
  let s2 := s1.setPeer i { s1.peer i with last := s.now, inService := p.inService || p.rx == 0 }
  if p.rx == 0 && !p.inService then s2.viewChanged else s2

/-- The mirror window takes frames (R33, R39, R41, R446): a member with its link up, not ALARMED and not at loopback depth 4. -/
def State.windowOpen (s : State) : Bool :=
  s.up && s.hif.linkUp && s.grp.member && !s.rnd.alarmed && s.hif.lpbkDepth != 4

/-- Take a frame (R451, R455): what it carries is done with its last fragment. One of a member that is not heard is discarded. -/
def State.takeFrame (s : State) (f : Frame) (typ : Nat) (k : State → State) : State :=
  if !s.windowOpen || f.typ != typ then s
  else if !s.frameOk f then s.rejectFrame
  else if !s.hears f then
    let s1 := s.frameCame f
    s1.setGrp { s1.grp with frameRej := satSucc s1.grp.frameRej }
  else if f.fragIdx + 1 = f.fragCnt then k (s.inView f)
  else s.inView f

/-! ## Commits (R454) -/

/-- What a member makes of a commit to a tenant it mirrors. -/
inductive Verdict454 where
  | apply | held | refused | behind | conflict
deriving DecidableEq, Repr

/-- The table of R454. -/
def State.judge (s : State) (c : SlotRec) : Verdict454 :=
  let k := s.slot c.tenant c.slot
  if !s.mirrors c.tenant || decide ((s.fn c.tenant).ten.slots ≤ c.slot) || c.slot == 0 then .refused
  else if c.counter = k.counter + 1 ∧ k.counter ≠ BitVec.allOnes 64 then
    if s.commits && (c.action == 3 || s.heapFits (if c.action = 4 then k.len else c.keyLen)) then .apply else .refused
  else if c.counter = k.counter ∧ c.hash = k.hash then .held
  else if k.counter < c.counter then .behind
  else .conflict

/-- The member's own commit of a record, under R302. -/
def State.applyCommit (s : State) (c : SlotRec) : State :=
  if c.action = 3 then s.deleteKey c.tenant c.slot c.counter c.hash
  else if c.action = 4 then s.putPolicy c.tenant c.slot c.counter c.hash c.attr
  else s.putKey (if c.action = 0 then 3 else 1) c.action c.tenant c.slot c.counter c.hash
    { attr := c.attr, len := c.keyLen, limit := if aCounted c.attr then c.useLimit else 0 }

/-- A result-3 event (R454, R459). -/
def State.conflicts (s : State) : State := s.setGrp { s.grp with conflicts := satSucc s.grp.conflicts }

/-- The ACK of a commit. -/
def State.ack (s : State) (f : Frame) (c : SlotRec) (result : Nat) : State :=
  s.queueFrame f.sender.val 0x02 f.mseq c.tenant c.slot result

/-- COMMIT_FRAME (R454). -/
def execCommitFrame (f : Frame) (c : SlotRec) (s : State) : Host.Outcome State Fault Refusal :=
  .next (s.takeFrame f 0x01 fun t =>
    match t.judge c with
    | .apply => (t.applyCommit c).ack f c 0
    | .held => t.ack f c 1
    | .refused => t.ack f c 2
    | .behind =>
      let t1 := t.ack f c 2
      if t1.grp.resyncing.isNone then t1.startResync f.sender.val else t1
    | .conflict => (t.ack f c 3).conflicts)

/-- An ACK counts toward its round, which ends at QUORUM (R453). -/
def State.countAck (s : State) (w : Wait) : State :=
  let w1 := { w with acks := w.acks + 1 }
  let s1 := s.setGrp { s.grp with pending := s.grp.pending.map (fun x => if x.mseq = w.mseq then w1 else x) }
  if s.grp.quorum ≤ w1.acks then s1.endRound w1 .ok else s1

/-- ACK_FRAME (R452, R453): 0 applied, 1 already held, 2 refused, 3 conflict. -/
def execAckFrame (f : Frame) (result : Fin 4) (s : State) : Host.Outcome State Fault Refusal :=
  .next (s.takeFrame f 0x02 fun t =>
    if result.val = 3 then t.conflicts
    else if result.val = 2 then t
    else match t.grp.pending.find? (fun w => w.mseq == f.mseq) with
      | some w => t.countAck w
      | none => t)

/-- HEARTBEAT_FRAME (R452, R455). -/
def execHeartbeatFrame (f : Frame) (s : State) : Host.Outcome State Fault Refusal := .next (s.takeFrame f 0x03 id)

/-- LEAVE_FRAME (R448, R452). -/
def execLeaveFrame (f : Frame) (s : State) : Host.Outcome State Fault Refusal :=
  .next (s.takeFrame f 0x06 fun t => t.dropPeer f.sender.val)

/-! ## Resync (R456) -/

/-- The slots that a source sends: those of every mirrored tenant from 1 on whose counter is not 0, in slot order. -/
def State.resyncSlots (s : State) : List (Nat × Nat) :=
  (s.vlt.slots.filter (fun e => s.mirrors (e.1 / 8192) && e.1 % 8192 != 0 && e.2.counter != 0)).map
    (fun e => (e.1 / 8192, e.1 % 8192))

/-- One RESYNC_DATA for each slot, the last with END; END alone where there is none. -/
def State.queueResync (s : State) (i : Nat) (m : QWord) (l : List (Nat × Nat)) : State :=
  match l with
  | [] => s.queueFrame i 0x05 m 0 0 1
  | [x] => s.queueFrame i 0x05 m x.1 x.2 1
  | x :: t => (s.queueFrame i 0x05 m x.1 x.2 0).queueResync i m t

/-- RESYNC_REQ_FRAME (R455, R456). -/
def execResyncReqFrame (f : Frame) (s : State) : Host.Outcome State Fault Refusal :=
  .next (s.takeFrame f 0x04 fun t =>
    let i := f.sender.val
    let t1 := t.setPeer i { t.peer i with resync := true, outq := [] }
    t1.queueResync i f.mseq t1.resyncSlots)

/-- A slot of the source's goes into the vault (R302, R456). -/
def State.putSlotRec (s : State) (c : SlotRec) : State :=
  let s1 := if c.occupied then
      s.putKey 1 c.action c.tenant c.slot c.counter c.hash
        { attr := c.attr, len := c.keyLen, limit := if aCounted c.attr then c.useLimit else 0 }
    else s.deleteKey c.tenant c.slot c.counter c.hash
  s1.setGrp { s1.grp with named := s1.grp.named ++ [slotKey c.tenant c.slot] }

/-- A slot of the source's fits this member: the tenant is mirrored here, and its allotment and the heap hold it. -/
def State.slotFits (s : State) (c : SlotRec) : Bool :=
  s.mirrors c.tenant && c.slot != 0 && decide (c.slot < (s.fn c.tenant).ten.slots) && s.commits
    && (!c.occupied || s.heapFits c.keyLen)

/-- A resync ends (R456), with an answer to the REJOIN that waits for it. -/
def State.endResync (s : State) (st : Status) (detail : List Byte) : State :=
  let s1 := (s.setGrp { s.grp with resyncing := none, named := [], req := none }).refresh
  match s.grp.req with
  | some token => (s1.adminLog 0x0801 0 st [8]).mbRespond 0 0x0801 token st .none 0 detail
  | none => s1

/-- Local slots of mirrored tenants that the data did not name go (step 4 of R456). -/
def State.dropUnnamed (s : State) : State :=
  let gone := fun (e : Nat × VSlot) => s.mirrors (e.1 / 8192) && e.1 % 8192 != 0 && !s.grp.named.contains e.1
  let s1 := (s.vlt.slots.filter gone).foldl (fun a e => a.keyChanges (e.1 / 8192) (e.1 % 8192) true) s
  s1.setVlt { s1.vlt with slots := s1.vlt.slots.filter (fun e => !gone e) }

/-- The slots of one RESYNC_DATA; one that does not fit ends the resync with DETAIL 0x05. -/
def State.takeSlots (s : State) : List SlotRec → State
  | [] => s
  | c :: l => if s.slotFits c then (s.putSlotRec c).takeSlots l else s.endResync .stateRefused (leBytes 8 0x05)

/-- RESYNC_DATA_FRAME (R456): the source's slots, and END. -/
def execResyncDataFrame (f : Frame) (slots : List SlotRec) (last : Bool) (s : State) :
    Host.Outcome State Fault Refusal :=
  .next (s.takeFrame f 0x05 fun t =>
    let i := f.sender.val
    if t.grp.resyncing ≠ some i then t
    else
      let t1 := t.takeSlots slots
      if !last || t1.grp.resyncing.isNone then t1
      else
        let p := t1.peer i
        let t2 := t1.dropUnnamed.setPeer i { p with inService := true }
        (if p.inService then t2 else t2.viewChanged).endResync .ok [])

/-! ## Sending -/

/-- The CONSUMED word that a peer last wrote into this device's window (R450). -/
def State.consumed (s : State) (i : Nat) : QWord := BitVec.ofNat 64 (Tab.leNat s.grp.window (peerSlot i + 960) 8)

/-- END has left: the member is in service again in this device's view (R455, R456). -/
def State.resyncSent (s : State) (i : Nat) : State :=
  let p := s.peer i
  let s1 := s.setPeer i { p with resync := false, inService := true, last := s.now }
  if p.inService then s1 else s1.viewChanged

/-- FRAME_SEND (R450 to R452): the next frame to a peer that has consumed the last. -/
def execFrameSend (peer : Fin 64) (s : State) : Host.Outcome State Fault Refusal :=
  let i := peer.val
  let p := s.peer i
  .next (
    if !s.maySend || !s.isMember i || i == s.grp.index || !s.hasPath i || s.consumed i != p.tx then s
    else match p.outq with
      | [] => s
      | (typ, mseq, tenant, slot, result) :: rest =>
        let s1 := (s.setPeer i { p with outq := rest }).writeFrame i typ mseq tenant slot result
        if typ = 0x05 ∧ result = 1 then s1.resyncSent i else s1)

/-- A heartbeat for a peer, unless one waits already. -/
def State.queueBeat (s : State) (i : Nat) : State :=
  if (s.peer i).outq.any (fun x => x.1 == 0x03) then s else s.queueFrame i 0x03 s.grp.mseq 0 0 0

/-- HEARTBEAT_TIMER (R452): every 1 ms, to every member. -/
def execHeartbeatTimer (s : State) : Host.Outcome State Fault Refusal :=
  .next (
    if s.maySend && decide (s.grp.beatAt + 1000 ≤ s.now) then
      s.others.foldl State.queueBeat (s.setGrp { s.grp with beatAt := s.now })
    else s)

/-- MEMBER_SILENT (R453, R455): 10 ms without a frame. -/
def execMemberSilent (peer : Fin 64) (s : State) : Host.Outcome State Fault Refusal :=
  let p := s.peer peer.val
  .next (
    if s.up && s.grp.member && p.member && p.inService && decide (p.last + 10000 ≤ s.now) then
      (s.setPeer peer.val { p with inService := false }).viewChanged
    else s)

/-- MIRROR_TIMEOUT (R453): MIRROR_TO passes before the quorum of a function's commit. -/
def execMirrorTimeout (fn : Fin 1024) (s : State) : Host.Outcome State Fault Refusal :=
  .next (
    if !s.up then s
    else (s.grp.pending.filter (fun w => w.fn == fn.val && decide (w.since + 1000 * s.grp.mirrorTo ≤ s.now))).foldl
      (fun a w => (a.endRound w .deviceFault).roundFails true) s)

end Sys2Proof.Machine
end

