-- ==== Sys2Proof/Machine/Register.lean ====
section
/-! DEFINITION. Accesses of the host to registers (R5, R26, R27, R32, R33, R367): reads with what they latch, and writes to
the registers that have no behaviour of their own; FN_CONTROL (R31), ORC_TRACE_CTRL (R94), and the MCTP messages that the
PF's mailbox would answer (R444). A register whose write is a row of its own changes by that row alone (assumption 3). BAR
number 6 stands for the configuration-space fields of assumption 11. -/

namespace Sys2Proof.Machine

/-! ## Access codes -/

/-- RW1C of a flag field: bits written 1 clear. -/
def clearBits {w : Nat} (old v : BitVec w) : BitVec w := old &&& ~~~v

/-- A saturating counter clears only when all ones are written. -/
def clearAll (old v : Word) : Word := if v = 0xFFFFFFFF then 0 else old

/-! ## BAR0 writes -/

/-- FN_CONTROL takes a value: EVT_VEC, EVT_EN and FETCH_STOP (R31). -/
def State.fnControl (s : State) (f : Nat) (v : Word) : State :=
  s.setPort f { (s.fn f).port with evtVec := v.extractLsb' 4 12, evtEn := v.getLsbD 1, fetchStop := v.getLsbD 0 }

/-- Function registers below 0x1000 (R29, R31, R111). -/
def State.writeFn (s : State) (f off : Nat) (v : Word) : State :=
  let r := s.fn f
  match off with
  | 0x008 => s.fnControl f v
  | 0x018 => s.latTolWrite f v
  | 0x00C => s.setPort f { r.port with events := clearBits r.port.events (v.setWidth 5) }
  | 0x01C => s.setPort f { r.port with dbDrops := clearAll r.port.dbDrops v }
  | 0x120 => s.setShare f { r.share with shaped := clearAll r.share.shaped v }
  | 0x124 => s.setShare f { r.share with quota := clearAll r.share.quota v }
  | 0x128 => s.setShare f { r.share with overload := clearAll r.share.overload v }
  | _ => s

/-- The mailbox (R333, R334): VEC and IEN of MP_MB_CTRL, and the buffer. GO itself is the mailbox rows; while BUSY is 1 it
and a write of the buffer only set BAD_ACCESS. -/
def State.writeMb (s : State) (f off : Nat) (v : Word) : State :=
  let m := (s.fn f).mb
  if off = 0x1000 then
    let s1 := s.setMb f { m with vec := v.extractLsb' 4 12, ien := v.getLsbD 1 }
    if v.getLsbD 0 && m.busy then s1.badAccess f else s1
  else if 0x1100 ≤ off then
    if m.busy then s.badAccess f else s.setMb f { m with buf := m.buf.putBytes (off - 0x1100) (leBytes 4 v.toNat) }
  else s

/-- UNDERRUN and RNG_UNDERRUNS (R324, R325). -/
def State.writeRngWin (s : State) (f off : Nat) (v : Word) : State :=
  let w := (s.fn f).rngw
  if off = 0x2008 then (if v.getLsbD 31 then s.setRngw f { w with underrun := false } else s)
  else if off = 0x200C then s.setRngw f { w with underruns := clearAll w.underruns v }
  else s

/-- The fault summary of the PF (R404). -/
def State.writeSum (s : State) (off : Nat) (v : Word) : State :=
  if off = 0x4004 then { s with flt := { s.flt with sumVec := v.extractLsb' 4 12, sumIen := v.getLsbD 0 } }
  else if off = 0x4008 then { s with flt := { s.flt with sumEvents := clearBits s.flt.sumEvents (v.setWidth 3) } }
  else s

/-- A dword of a vector's MSI-X table entry; clearing its mask bit sends what its PBA bit holds (R27, R37). -/
def State.writeVec (s : State) (f vec i : Nat) (v : Word) : State :=
  let r := s.fn f
  let e := r.vec vec
  let put := fun (x : MsixVec) => s.setFn f { r with msix := Tab.put {} r.msix vec x }
  if i = 0 then put { e with addr := (e.addr.extractLsb' 32 32) ++ (v &&& 0xFFFFFFFC) }
  else if i = 1 then put { e with addr := v ++ (e.addr.extractLsb' 0 32) }
  else if i = 2 then put { e with data := v }
  else if v.getLsbD 0 then put { e with mask := true }
  else s.unmask f vec

/-- BAR0 of a function. -/
def State.write0 (s : State) (f off : Nat) (v : Word) : State :=
  if off < 0x1000 then s.writeFn f off v
  else if off < 0x2000 then s.writeMb f off v
  else if off < 0x3000 then s.writeRngWin f off v
  else if f = 0 ∧ 0x4000 ≤ off ∧ off < 0x5000 then s.writeSum off v
  else if (s.fn f).inTable off then s.writeVec f ((off - 0x8000) / 16) (off % 16 / 4) v
  else s

/-! ## BAR4 writes -/

/-- HIF_ (R42). -/
def State.writeHif (s : State) (off : Nat) (v : Word) : State :=
  let h := s.hif
  match off with
  | 0x100 => s.hifLpbk (if 4 < v.toNat % 8 then 0 else v.toNat % 8) (v.extractLsb' 16 4) 0
  | 0x104 => { s with hif := { h with lpbkErr := clearAll h.lpbkErr v } }
  | 0x108 => { s with hif := { h with lpbkAddr := (h.lpbkAddr.extractLsb' 32 32) ++ (v &&& 0xFFFFFFC0) } }
  | 0x10C => { s with hif := { h with lpbkAddr := v ++ (h.lpbkAddr.extractLsb' 0 32) } }
  | _ => s

/-- QM_ (R72). -/
def State.writeQm (s : State) (off : Nat) (v : Word) : State :=
  match off with
  | 0x04 => { s with qm := { s.qm with sel := v.setWidth 16 } }
  | 0x14 => { s with qm := { s.qm with cplLost := clearAll s.qm.cplLost v } }
  | _ => s

/-- The fields of ORC_TRACE_CTRL (R94). -/
def traceFields (v : Word) : Word := v &&& 0xE3FF001F

/-- ORC_TRACE_CTRL takes a value (R94): ENABLE changes at the next boundary, and a write of ENABLE with a ring size out of range is
ignored. -/
def State.traceCtrlWrite (s : State) (v : Word) : State :=
  if v.getLsbD 31 && !within (bitsOf v.toNat 4 0) 8 20 then s
  else
    let on : Word := s.orc.traceCtrl &&& 0x80000000
    { s with orc := { s.orc with traceCtrl := (traceFields v &&& 0x7FFFFFFF) ||| on, traceNext := some (traceFields v) } }

/-- ORC_ (R92). -/
def State.writeOrc (s : State) (off : Nat) (v : Word) : State :=
  let o := s.orc
  match off with
  | 0x10 => { s with orc := { o with delayPeak := if v = 0xFFFFFFFF then 0 else o.delayPeak } }
  | 0x38 => { s with orc := { o with budgetWaits := clearAll o.budgetWaits v } }
  | 0x40 => { s with orc := { o with traceBase := (o.traceBase.extractLsb' 32 32) ++ (v &&& 0xFFFFF000) } }
  | 0x44 => { s with orc := { o with traceBase := v ++ (o.traceBase.extractLsb' 0 32) } }
  | 0x48 => s.traceCtrlWrite v
  | 0x50 => { s with orc := { o with traceTail := v.toNat % 2 ^ 20 } }
  | 0x54 => { s with orc := { o with traceLost := clearAll o.traceLost v } }
  | _ => s

/-- PIP_CL_CORR and ZST_LIMIT_HITS (R151, R153). -/
def State.writePip (s : State) (off : Nat) (v : Word) : State :=
  if 0x100 ≤ off ∧ off < 0x300 ∧ off % 32 = 12 then
    let k := (off - 0x100) / 32
    s.setCluster k { s.cluster k with corr := clearAll (s.cluster k).corr v }
  else if 0x8000 ≤ off ∧ off < 0x8100 ∧ off % 16 = 12 then
    let k := (off - 0x8000) / 16
    s.setGen k { s.gen k with hits := clearAll (s.gen k).hits v }
  else s

/-- MED_ and CUR_ (R243, R262). -/
def State.writeMed (s : State) (off : Nat) (v : Word) : State :=
  match off with
  | 0x08 => s.setEng { s.eng with medHits := clearAll s.eng.medHits v }
  | 0x0C => s.setEng { s.eng with medCorr := clearAll s.eng.medCorr v }
  | _ => s
def State.writeCur (s : State) (off : Nat) (v : Word) : State :=
  match off with
  | 0x0C => s.setEng { s.eng with curScrubbed := clearAll s.eng.curScrubbed v }
  | 0x10 => s.setEng { s.eng with curCorr := clearAll s.eng.curCorr v }
  | _ => s

/-- PLP_ and HBM_ (R217, R219). -/
def State.writePlp (s : State) (off : Nat) (v : Word) : State :=
  let h := s.hbm
  match off with
  | 0x000C => { s with pulp := { s.pulp with integFail := clearAll s.pulp.integFail v } }
  | 0x0020 => { s with pulp := { s.pulp with sel := v.setWidth 10 } }
  | 0x8010 => { s with hbm := { h with corr := clearAll h.corr v } }
  | 0x8014 => { s with hbm := { h with uncorr := clearAll h.uncorr v } }
  | 0x8018 => { s with hbm := { h with sealFail := clearAll h.sealFail v } }
  | 0x8104 => { s with hbm := { h with lpbkErr := clearAll h.lpbkErr v } }
  | _ => s

/-- The failure counter of a noise source (R327). -/
def State.writeFails (s : State) (i : Nat) (v : Word) : State :=
  let x := s.rng.srcs.getD i {}
  s.setSource i { x with fails := clearAll x.fails v }

/-- VLT_ and RNG_ (R310, R327). -/
def State.writeVlt (s : State) (off : Nat) (v : Word) : State :=
  match off with
  | 0x8004 => s.rngCtrl v
  | 0x8100 => s.rawCtrl v
  | 0x001C => s.setVlt { s.vlt with reject := clearAll s.vlt.reject v }
  | 0x8008 => s.writeFails 0 v
  | 0x800C => s.writeFails 1 v
  | 0x8010 => s.writeFails 2 v
  | _ => s

/-- FLT_ (R406). -/
def State.writeFlt (s : State) (off : Nat) (v : Word) : State :=
  let f := s.flt
  if off = 0x1C then { s with flt := { f with lost := clearAll f.lost v } }
  else if off = 0x10 then s.fltAck v
  else if off = 0x04 then s.firstClear v
  else if 0x100 ≤ off ∧ off < 0x120 then
    { s with flt := { f with cause := clearBits f.cause (v.setWidth 256 <<< (8 * (off - 0x100))) } }
  else s

/-- LOG_, PWR_ with SB_, and GRP_ (R421, R439, R458, R459). -/
def State.writeLog (s : State) (off : Nat) (v : Word) : State :=
  match off with
  | 0x20 => { s with log := { s.log with dropped := clearAll s.log.dropped v } }
  | 0x24 => { s with log := { s.log with page := v.setWidth 5 } }
  | _ => s
def State.writePwr (s : State) (off : Nat) (v : Word) : State :=
  let b := s.sb
  match off with
  | 0x0034 => { s with pwr := { s.pwr with shutFlag := s.pwr.shutFlag && !v.getLsbD 0 } }
  | 0x8100 => s.sbLpbk (if 2 < v.toNat % 8 then 0 else v.toNat % 8) 0
  | 0x8018 => { s with sb := { b with err := clearAll b.err v } }
  | 0x8104 => { s with sb := { b with lpbkErr := clearAll b.lpbkErr v } }
  | _ => s
def State.writeGrp (s : State) (off : Nat) (v : Word) : State :=
  let g := s.grp
  match off with
  | 0x20 => s.setGrp { g with timeouts := clearAll g.timeouts v }
  | 0x24 => s.setGrp { g with conflicts := clearAll g.conflicts v }
  | 0x28 => s.setGrp { g with frameRej := clearAll g.frameRej v }
  | 0x30 => s.setGrp { g with peerSel := v.setWidth 6 }
  | _ => s

/-- BAR4 of the PF (R32). The mirror window takes writes from any requester (R450); at loopback depth 4 they are returned (R41). -/
def State.write4 (s : State) (off : Nat) (v : Word) : State :=
  let o := off % 0x10000
  match off / 0x10000 with
  | 0x0 => s.writeHif o v
  | 0x1 => s.writeQm o v
  | 0x2 => s.writeOrc o v
  | 0x3 => s.writePip o v
  | 0x4 => s.writeMed o v
  | 0x5 => s.writeCur o v
  | 0x6 => s.writePlp o v
  | 0x7 => s.writeVlt o v
  | 0x8 => if o = 0x04 then s.alarmWrite v else if o = 0x10 then { s with rnd := { s.rnd with stimFail := clearBits s.rnd.stimFail (v.setWidth 30) } } else s
  | 0x9 => s.writeFlt o v
  | 0xA => s.writeLog o v
  | 0xC => s.writePwr o v
  | 0xD => s.writeGrp o v
  | 0xE =>
    if s.hif.lpbkDepth = 4 then (if (s.fn 0).port.bme then s.emit (.bytes 0 s.hif.lpbkAddr (leBytes 4 v.toNat)) else s)
    else s.setGrp { s.grp with window := s.grp.window.putBytes o (leBytes 4 v.toNat) }
  | _ => s

/-! ## Configuration space (R23, R36, R37, R429; assumption 11) -/

/-- The MSI-X Function Mask: cleared, it sends what the PBA bits of unmasked vectors hold. -/
def State.functionMask (s : State) (f : Nat) (on : Bool) : State :=
  let r := s.fn f
  let s1 := s.setFn f { r with msixMask := on }
  if on then s1 else (r.msix.filter (fun e => e.2.pba && !e.2.mask)).foldl (fun a e => a.unmask f e.1) s1

/-- A half of a 64-bit non-prefetchable BAR of `n` bytes as it reads: bits below the size are 0 but for the type (R25). -/
def barHalf (base : QWord) (hi : Bool) : Word := if hi then hiWord base.toNat else loWord base.toNat ||| 0x4

/-- A write to a half of a BAR of 2^k bytes keeps the bits above the size. -/
def barPut (base : QWord) (hi : Bool) (k : Nat) (v : Word) : QWord :=
  if hi then v ++ base.extractLsb' 0 32 else base.extractLsb' 32 32 ++ (v >>> k <<< k)

/-- Configuration space by the field numbers of assumption 11. Written: 0 LTR Mechanism Enable, 1 Max Snoop and 2 Max No-Snoop
Latency, 3 buses assigned, 4 MSI-X Function Mask of the function, 17 ARI Forwarding, 20 to 25 the halves of BAR0, BAR2 and BAR4
of the PF, 26 to 29 those of VF BAR0 and VF BAR2. Fields with a row of their own change by it alone. -/
def State.writeCfg (s : State) (f off : Nat) (v : Word) : State :=
  let h := s.hif
  match off with
  | 0 => { s with hif := { h with ltrEnable := v.getLsbD 0 } }
  | 1 => { s with hif := { h with ltrMax := v.setWidth 16 } }
  | 2 => { s with hif := { h with ltrMaxNo := v.setWidth 16 } }
  | 3 => if 1 ≤ v.toNat ∧ v.toNat ≤ 4 ∧ !h.vfEnable then { s with hif := { h with buses := v.toNat } } else s
  | 4 => s.functionMask f (v.getLsbD 0)
  | 17 => if h.vfEnable || f != 0 then s else { s with hif := { h with ari := v.getLsbD 0, numVfs := if v.getLsbD 0 then h.numVfs else 0 } }
  | 20 | 21 => if f = 0 then s.setPort 0 { (s.fn 0).port with bar0 := barPut (s.fn 0).port.bar0 (off == 21) 16 v } else s
  | 22 | 23 => if f = 0 then s.setPort 0 { (s.fn 0).port with bar2 := barPut (s.fn 0).port.bar2 (off == 23) 16 v } else s
  | 24 | 25 => if f = 0 then s.setPort 0 { (s.fn 0).port with bar4 := barPut (s.fn 0).port.bar4 (off == 25) 20 v } else s
  | 26 | 27 => if f = 0 then { s with hif := { h with vfBar0 := barPut h.vfBar0 (off == 27) 16 v } } else s
  | 28 | 29 => if f = 0 then { s with hif := { h with vfBar2 := barPut h.vfBar2 (off == 29) 16 v } } else s
  | _ => s

/-- Capability structures of configuration space (R20): bit 0 PCI Express with FLR, 1 MSI-X, 2 AER, 3 ARI, and on the PF 4 SR-IOV,
5 LTR, 6 L1 PM substates, 7 DOE, 8 IDE. MSI, CXL, TDISP, ATS, PRI and PASID have none. -/
def capabilities (f : Nat) : Word := if f = 0 then 0x1FF else 0xF

/-- What reads: besides the fields written, 5 Vendor ID, 6 Device ID, 7 Revision ID, 8 class code (R21), 9 MSI-X Table Size (R34),
10 InitialVFs, 11 TotalVFs, 12 First VF Offset, 13 VF Stride, 14 NumVFs, 15 VF Enable, 16 VF Device ID (R20 to R23), 18 Memory Space
Enable and Bus Master Enable, 30 the capability structures, and of the options of R20: 31 the largest payload and 32 read request
in bytes, 33 outstanding requests, 34 the default completion timeout in ms, 35 the highest RATE code and 36 WIDTH, 37 link and
38 selective IDE streams. VFs have no LTR, SR-IOV or BARs of their own (R25). -/
def State.readCfg (s : State) (f off : Nat) : Word :=
  let p := (s.fn f).port
  let pf := fun (w : Word) => if f = 0 then w else 0
  match off with
  | 5 => fieldAt Config.vendorId.toNat 0
  | 6 => if f = 0 then 0x9640 else 0x9641
  | 7 => 0xB0
  | 8 => 0x1080
  | 9 => fieldAt ((s.fn f).ten.msix - 1) 0
  | 10 => pf (fieldAt s.hif.totalVfs 0)
  | 11 => pf (fieldAt s.hif.totalVfs 0)
  | 12 => pf 1
  | 13 => pf 1
  | 14 => pf (fieldAt s.hif.numVfs 0)
  | 15 => pf (flagAt s.hif.vfEnable 0)
  | 16 => pf 0x9641
  | 17 => pf (flagAt s.hif.ari 0)
  | 18 => flagAt p.mse 1 ||| flagAt p.bme 2
  | 20 => pf (barHalf p.bar0 false)
  | 21 => pf (barHalf p.bar0 true)
  | 22 => pf (barHalf p.bar2 false)
  | 23 => pf (barHalf p.bar2 true)
  | 24 => pf (barHalf p.bar4 false)
  | 25 => pf (barHalf p.bar4 true)
  | 26 => pf (barHalf s.hif.vfBar0 false)
  | 27 => pf (barHalf s.hif.vfBar0 true)
  | 28 => pf (barHalf s.hif.vfBar2 false)
  | 29 => pf (barHalf s.hif.vfBar2 true)
  | 30 => capabilities f
  | 31 => 512
  | 32 => 4096
  | 33 => 4096
  | 34 => 50
  | 35 => 4
  | 36 => 16
  | 37 => pf 1
  | 38 => pf 8
  | 0 => flagAt s.hif.ltrEnable 0
  | 1 => s.hif.ltrMax.setWidth 32
  | 2 => s.hif.ltrMaxNo.setWidth 32
  | 3 => fieldAt s.hif.buses 0
  | 4 => flagAt (s.fn f).msixMask 0
  | _ => 0

/-! ## REGISTER_WRITE -/

/-- One 4-byte write. BAR4 is the PF's, and ignores writes in ALARMED mode (R33). -/
def State.write1 (s : State) (f bar off : Nat) (v : Word) : State :=
  if bar = 0 then s.write0 f off v
  else if bar = 2 then s.write2 f off v
  else if bar = 4 ∧ f = 0 ∧ !s.rnd.alarmed then s.write4 off v
  else s

/-- An offset lies in the BAR of a function (R25). -/
def inBar (f bar off : Nat) : Bool :=
  (bar == 0 || bar == 2) && decide (off < 0x10000) || bar == 4 && f == 0 && decide (off < 0x100000)

/-- A configuration request gets Configuration Request Retry Status: configuration space is not ready, or a VF does not answer yet
(R36; for the VF: DESIGN CHOICE, assumption 11). -/
def State.retries (s : State) (f : Nat) : Bool :=
  s.up && s.hif.linkUp && s.pwr.state != 4 && s.fnExists f && !s.hif.linkBroken && !(s.fn f).port.ideBroken

/-- REGISTER_WRITE (R5, R26): an 8-byte write is two of 4 bytes, the low one first. -/
def execRegisterWrite (fn : Fin 1024) (bar off size : Nat) (v : QWord) (s : State) : Host.Outcome State Fault Refusal :=
  let f := fn.val
  .next (
    if bar = 6 then (if s.cfgReaches f && !s.scrapped then s.writeCfg f off (v.setWidth 32) else s)
    else if !inBar f bar off then s
    else s.access f off size fun t =>
      let t1 := t.write1 f bar off (v.setWidth 32)
      if size = 8 then t1.write1 f bar (off + 4) (v.extractLsb' 32 32) else t1)

/-! ## REGISTER_READ -/

/-- What a 4-byte read of BAR4 latches: HI halves with LO, the rest of a history entry with DW0, and a raw sample. -/
def State.latch4 (s : State) (off : Nat) : State :=
  if !s.answers off then s
  else match off with
  | 0x20000 => { s with orc := { s.orc with tickLatch := hiWord s.orc.tick } }
  | 0x20030 => { s with orc := { s.orc with extendLatch := hiWord s.orc.extend } }
  | 0x70010 => s.setVlt { s.vlt with seqLatch := hiWord s.vlt.seq }
  | 0x78014 => { s with rng := { s.rng with reseedsLatch := hiWord s.rng.reseeds } }
  | 0x78104 => if s.rng.rawEn then s.draw 1 else s
  | 0x90008 => { s with flt := { s.flt with firstLatch := hiWord s.flt.firstTick } }
  | _ =>
    if 0x90A00 ≤ off ∧ off < 0x90E00 ∧ off % 16 = 0 then
      { s with flt := { s.flt with histLatch := match s.histOf (off - 0x90000) with
        | some h => h.rest
        | none => [0, 0, 0] } }
    else s

/-- One 4-byte read: its value, and the state after it. -/
def State.read1 (s : State) (f bar off : Nat) : Word × State :=
  if bar = 0 then (s.reg0 f off, s)
  else if bar = 2 then (s.reg2 f off, s)
  else if bar = 4 ∧ f = 0 then (s.reg4 off, s.latch4 off)
  else (0, s)

/-- A read that passed R26: an 8-byte read is two of 4 bytes, the low one first. -/
def State.readReg (s : State) (f bar off size : Nat) : State :=
  let a := s.read1 f bar off
  if size = 8 then
    let b := a.2.read1 f bar (off + 4)
    b.2.emit (.read (b.1 ++ a.1))
  else a.2.emit (.read (a.1.setWidth 64))

/-- REGISTER_READ (R5, R26, R27, R32, R33, R367). A read of RNG_DATA takes bytes as R326 gives. -/
def execRegisterRead (fn : Fin 1024) (bar off size : Nat) (s : State) : Host.Outcome State Fault Refusal :=
  let f := fn.val
  .next (
    if bar = 6 then
      (if s.cfgReaches f then s.emit (.read ((s.readCfg f off).setWidth 64))
       else if s.retries f then s.emit .crs else s)
    else if !inBar f bar off then s
    else s.atBar f fun s =>
    if !accessOk off size then (s.badAccess f).emit (.read 0)
    else if bar = 0 ∧ (off = 0x2000 ∨ off = 0x2004) then s.rngRead f size
    else s.readReg f bar off size)

/-! ## FN_CONTROL and ORC_TRACE_CTRL -/

/-- FN_CONTROL_WRITE (R31). -/
def execFnControlWrite (fn : Fin 1024) (v : Word) (s : State) : Host.Outcome State Fault Refusal :=
  .next (s.access fn.val 0x08 4 (·.fnControl fn.val v))

/-- ORC_TRACE_CTRL_WRITE (R94). -/
def execOrcTraceCtrlWrite (v : Word) (s : State) : Host.Outcome State Fault Refusal := .next (s.onBar4 (·.traceCtrlWrite v))

/-! ## MCTP (R444) -/

/-- A mailbox message over MCTP: GET_STATUS, GET_VERSION or LOG_READ, answered as by the PF's mailbox. -/
def State.mctpReply (s : State) (r : MbReq) (cmd : Nat) (x : Reply) : State :=
  let say := fun st why payload =>
    s.txMctp (.mctp ((mbBytes cmd st why 0 r.token s.mp.epoch payload).map (·.toNat)))
  match x with
  | .ok _ payload => say .ok .none payload
  | .bad st why => say st why []
  | _ => say .deviceFault .none []

/-- The answer of each of the three commands to a request that passes the checks of R337. -/
def State.mctpServe (s : State) (cmd : Nat) (r : MbReq) : Reply :=
  if cmd = 0x0001 then .words (s.statusWords 0)
  else if cmd = 0x0002 then .ok 0 s.versionBytes
  else if logLimits (r.w 0) (r.w 1) then .ok 0 (s.logBytesAt (r.w 0) (r.w 1))
  else .bad .badRange .none

/-- MCTP_VENDOR_MAILBOX (R444): any other command is dropped. -/
def execMctpVendorMailbox (cmd : BitVec 16) (r0 : MbReq) (s : State) : Host.Outcome State Fault Refusal :=
  let c := cmd.toNat
  let r := { r0 with fn := 0 }
  .next (
    if !s.mctpUp then s.holdWrite (.mctpVendorMailbox cmd r0)
    else if !s.sb.eidValid || s.scrapped || !(c == 0x0001 || c == 0x0002 || c == 0x0901) then s
    else
      let t := s.rxMctp
      if !t.serves 0 then t.mctpReply r c (.bad .stateRefused .mpRestarting)
      else match t.mbCheck c r [if c = 0x0901 then 16 else 0] [] with
        | some (st, why) => t.mctpReply r c (.bad st why)
        | none => t.mctpReply r c (t.mctpServe c r))

end Sys2Proof.Machine
end

