-- ==== Sys2Proof/Machine/Dispatch.lean ====
section
/-! DEFINITION. The dispatch: one arm per command, each a direct call of its meaning. -/

namespace Sys2Proof.Machine

def exec (i : Instr) (s : State) : Host.Outcome State Fault Refusal :=
  match i with
  | .vaonPowerOn => Sys2Proof.Machine.execVaonPowerOn s
  | .vaonLoss => Sys2Proof.Machine.execVaonLoss s
  | .mainRailsGood => Sys2Proof.Machine.execMainRailsGood s
  | .perstNAssert => Sys2Proof.Machine.execPerstNAssert s
  | .perstNRelease b => Sys2Proof.Machine.execPerstNRelease b s
  | .brownOut => Sys2Proof.Machine.execBrownOut s
  | .brownOutRecover b => Sys2Proof.Machine.execBrownOutRecover b s
  | .linkDown how => Sys2Proof.Machine.execLinkDown how s
  | .linkRetrain rate width flit => Sys2Proof.Machine.execLinkRetrain rate width flit s
  | .memorySpaceEnableWrite fn v => Sys2Proof.Machine.execMemorySpaceEnableWrite fn v s
  | .busMasterEnableWrite fn v => Sys2Proof.Machine.execBusMasterEnableWrite fn v s
  | .vfEnableSet => Sys2Proof.Machine.execVfEnableSet s
  | .vfEnableClear => Sys2Proof.Machine.execVfEnableClear s
  | .numvfsWrite n => Sys2Proof.Machine.execNumvfsWrite n s
  | .flrInitiate fn => Sys2Proof.Machine.execFlrInitiate fn s
  | .flrDone fn => Sys2Proof.Machine.execFlrDone fn s
  | .ideIntegrityFail stream fns => Sys2Proof.Machine.execIdeIntegrityFail stream fns s
  | .tlpWithoutIde fn write => Sys2Proof.Machine.execTlpWithoutIde fn write s
  | .registerWrite fn bar off size v => Sys2Proof.Machine.execRegisterWrite fn bar off size v s
  | .fnControlWrite fn v => Sys2Proof.Machine.execFnControlWrite fn v s
  | .fnLatTolWrite fn v => Sys2Proof.Machine.execFnLatTolWrite fn v s
  | .msixUnmask fn vec => Sys2Proof.Machine.execMsixUnmask fn vec s
  | .dmaReadFail rd => Sys2Proof.Machine.execDmaReadFail rd s
  | .completionTimeout rd => Sys2Proof.Machine.execCompletionTimeout rd s
  | .hifLpbkOff lane => Sys2Proof.Machine.execHifLpbkOff lane s
  | .hifLpbkNearSerial lane errors => Sys2Proof.Machine.execHifLpbkNearSerial lane errors s
  | .hifLpbkNearParallel lane errors => Sys2Proof.Machine.execHifLpbkNearParallel lane errors s
  | .hifLpbkLtssm lane fromPartner => Sys2Proof.Machine.execHifLpbkLtssm lane fromPartner s
  | .hifLpbkTransaction lane => Sys2Proof.Machine.execHifLpbkTransaction lane s
  | .lpbkTlpReturn data => Sys2Proof.Machine.execLpbkTlpReturn data s
  | .spdmGetVersion t => Sys2Proof.Machine.execSpdmGetVersion t s
  | .spdmGetCapabilities t => Sys2Proof.Machine.execSpdmGetCapabilities t s
  | .spdmNegotiateAlgorithms o => Sys2Proof.Machine.execSpdmNegotiateAlgorithms o s
  | .spdmGetDigests t => Sys2Proof.Machine.execSpdmGetDigests t s
  | .spdmGetCertificate t slot => Sys2Proof.Machine.execSpdmGetCertificate t slot s
  | .spdmChallenge t slot => Sys2Proof.Machine.execSpdmChallenge t slot s
  | .spdmGetMeasurements t index => Sys2Proof.Machine.execSpdmGetMeasurements t index s
  | .spdmKeyExchange t => Sys2Proof.Machine.execSpdmKeyExchange t s
  | .spdmFinish t macOk => Sys2Proof.Machine.execSpdmFinish t macOk s
  | .spdmKeyUpdate t => Sys2Proof.Machine.execSpdmKeyUpdate t s
  | .spdmHeartbeat t => Sys2Proof.Machine.execSpdmHeartbeat t s
  | .spdmEndSession t => Sys2Proof.Machine.execSpdmEndSession t s
  | .ideKmMessage op stream fns => Sys2Proof.Machine.execIdeKmMessage op stream fns s
  | .sqDb fn q size v => Sys2Proof.Machine.execSqDb fn q size v s
  | .cqDb fn q size v => Sys2Proof.Machine.execCqDb fn q size v s
  | .cancel fn q size v => Sys2Proof.Machine.execCancel fn q size v s
  | .fetchIssue fn q entries => Sys2Proof.Machine.execFetchIssue fn q entries s
  | .itemAccept fn q => Sys2Proof.Machine.execItemAccept fn q s
  | .fragmentListRead fn q step output entries => Sys2Proof.Machine.execFragmentListRead fn q step output entries s
  | .itemPlace seq step => Sys2Proof.Machine.execItemPlace seq step s
  | .waitwork cls unit => Sys2Proof.Machine.execWaitwork cls unit s
  | .dispatch cls region => Sys2Proof.Machine.execDispatch cls region s
  | .stageEnd cls unit res => Sys2Proof.Machine.execStageEnd cls unit res s
  | .fail cls unit => Sys2Proof.Machine.execFail cls unit s
  | .publicEnd cls unit res => Sys2Proof.Machine.execPublicEnd cls unit res s
  | .scrubEnd cls unit => Sys2Proof.Machine.execScrubEnd cls unit s
  | .gfCreditRecovered unit => Sys2Proof.Machine.execGfCreditRecovered unit s
  | .hostReadAllowanceExpire cls unit => Sys2Proof.Machine.execHostReadAllowanceExpire cls unit s
  | .safePointStop cls unit => Sys2Proof.Machine.execSafePointStop cls unit s
  | .safePointTimeout cls unit => Sys2Proof.Machine.execSafePointTimeout cls unit s
  | .uncorrectedFault cls unit kind detail => Sys2Proof.Machine.execUncorrectedFault cls unit kind detail s
  | .dueTick unsealFail => Sys2Proof.Machine.execDueTick unsealFail s
  | .coalesceTimer fn q => Sys2Proof.Machine.execCoalesceTimer fn q s
  | .deadlineExpire => Sys2Proof.Machine.execDeadlineExpire s
  | .entropyWaitTimeout => Sys2Proof.Machine.execEntropyWaitTimeout s
  | .flowAdvance fn flow => Sys2Proof.Machine.execFlowAdvance fn flow s
  | .regionLost region => Sys2Proof.Machine.execRegionLost region s
  | .regionDrainEnd region => Sys2Proof.Machine.execRegionDrainEnd region s
  | .drainLimitExpire region => Sys2Proof.Machine.execDrainLimitExpire region s
  | .regionReloadDone region digestOk katFail => Sys2Proof.Machine.execRegionReloadDone region digestOk katFail s
  | .controlStorePatrol store upsets => Sys2Proof.Machine.execControlStorePatrol store upsets s
  | .zestReseed medlar gen => Sys2Proof.Machine.execZestReseed medlar gen s
  | .zestLimit medlar gen => Sys2Proof.Machine.execZestLimit medlar gen s
  | .fragmentServiceEnd cls unit res => Sys2Proof.Machine.execFragmentServiceEnd cls unit res s
  | .fragmentDue unsealFail => Sys2Proof.Machine.execFragmentDue unsealFail s
  | .portWriteTick group => Sys2Proof.Machine.execPortWriteTick group s
  | .laneReadAllowanceExpire cls unit => Sys2Proof.Machine.execLaneReadAllowanceExpire cls unit s
  | .mailboxGoRefused fn cmd token => Sys2Proof.Machine.execMailboxGoRefused fn cmd token s
  | .getStatus r => Sys2Proof.Machine.execGetStatus r s
  | .getVersion r => Sys2Proof.Machine.execGetVersion r s
  | .qpCreate r => Sys2Proof.Machine.execQpCreate r s
  | .qpDelete r => Sys2Proof.Machine.execQpDelete r s
  | .qpInterrupt r => Sys2Proof.Machine.execQpInterrupt r s
  | .pulpFlush r => Sys2Proof.Machine.execPulpFlush r s
  | .tenantCreate r => Sys2Proof.Machine.execTenantCreate r s
  | .tenantSuspend r => Sys2Proof.Machine.execTenantSuspend r s
  | .tenantResume r => Sys2Proof.Machine.execTenantResume r s
  | .tenantDelete r => Sys2Proof.Machine.execTenantDelete r s
  | .tenantSetShare r => Sys2Proof.Machine.execTenantSetShare r s
  | .tenantSetAllot r => Sys2Proof.Machine.execTenantSetAllot r s
  | .tenantGet r => Sys2Proof.Machine.execTenantGet r s
  | .pulpSize r => Sys2Proof.Machine.execPulpSize r s
  | .pulpPublish r => Sys2Proof.Machine.execPulpPublish r s
  | .pulpWithdraw r => Sys2Proof.Machine.execPulpWithdraw r s
  | .sharedPoolRebuild w => Sys2Proof.Machine.execSharedPoolRebuild w s
  | .keyUpdate r m => Sys2Proof.Machine.execKeyUpdate r m s
  | .keyImportPublic r keyOk io => Sys2Proof.Machine.execKeyImportPublic r keyOk io s
  | .keyInfo r => Sys2Proof.Machine.execKeyInfo r s
  | .keyExport r => Sys2Proof.Machine.execKeyExport r s
  | .keystoreLoad r b => Sys2Proof.Machine.execKeystoreLoad r b s
  | .keyStatement r => Sys2Proof.Machine.execKeyStatement r s
  | .certRead r => Sys2Proof.Machine.execCertRead r s
  | .authoritySet r keyOk io => Sys2Proof.Machine.execAuthoritySet r keyOk io s
  | .zeroise r b => Sys2Proof.Machine.execZeroise r b s
  | .legacySet r => Sys2Proof.Machine.execLegacySet r s
  | .rngPerso r => Sys2Proof.Machine.execRngPerso r s
  | .idePolicy r => Sys2Proof.Machine.execIdePolicy r s
  | .faultPolicySetSource r => Sys2Proof.Machine.execFaultPolicySetSource r s
  | .faultPolicyGrace r => Sys2Proof.Machine.execFaultPolicyGrace r s
  | .faultPolicyQuiet r => Sys2Proof.Machine.execFaultPolicyQuiet r s
  | .faultPolicyRecoveryLimit r => Sys2Proof.Machine.execFaultPolicyRecoveryLimit r s
  | .faultPolicyClearStuck r => Sys2Proof.Machine.execFaultPolicyClearStuck r s
  | .rindPolicySetGroup r => Sys2Proof.Machine.execRindPolicySetGroup r s
  | .rindPolicyBurnFuse r => Sys2Proof.Machine.execRindPolicyBurnFuse r s
  | .rindPolicyTempLimits r => Sys2Proof.Machine.execRindPolicyTempLimits r s
  | .rindPolicyTampPolarity r => Sys2Proof.Machine.execRindPolicyTampPolarity r s
  | .powerPolicyDeepest r => Sys2Proof.Machine.execPowerPolicyDeepest r s
  | .powerPolicyIdleTimes r => Sys2Proof.Machine.execPowerPolicyIdleTimes r s
  | .powerPolicySpread r => Sys2Proof.Machine.execPowerPolicySpread r s
  | .lcTransition r tok readOk => Sys2Proof.Machine.execLcTransition r tok readOk s
  | .lcReset b => Sys2Proof.Machine.execLcReset b s
  | .recovery r tok readOk => Sys2Proof.Machine.execRecovery r tok readOk s
  | .fwStage r img readOk => Sys2Proof.Machine.execFwStage r img readOk s
  | .fwActivate r => Sys2Proof.Machine.execFwActivate r s
  | .fwConfirm r => Sys2Proof.Machine.execFwConfirm r s
  | .fwRestart r => Sys2Proof.Machine.execFwRestart r s
  | .watchdogExpire => Sys2Proof.Machine.execWatchdogExpire s
  | .lockstepMismatch pair => Sys2Proof.Machine.execLockstepMismatch pair s
  | .firmwareStart bankAOk bankBOk tableOk => Sys2Proof.Machine.execFirmwareStart bankAOk bankBOk tableOk s
  | .regionReload r => Sys2Proof.Machine.execRegionReload r s
  | .regionReset r => Sys2Proof.Machine.execRegionReset r s
  | .unitService r => Sys2Proof.Machine.execUnitService r s
  | .warmReset r b => Sys2Proof.Machine.execWarmReset r b s
  | .groupCreate r => Sys2Proof.Machine.execGroupCreate r s
  | .groupJoinRequest r => Sys2Proof.Machine.execGroupJoinRequest r s
  | .groupAdmit r readOk formatOk sigsOk state ikh deviceId => Sys2Proof.Machine.execGroupAdmit r readOk formatOk sigsOk state ikh deviceId s
  | .groupAccept r readOk formatOk sigsOk state ikh groupId index admitter quorum mirrorTo deviceId => Sys2Proof.Machine.execGroupAccept r readOk formatOk sigsOk state ikh groupId index admitter quorum mirrorTo deviceId s
  | .groupPeer r => Sys2Proof.Machine.execGroupPeer r s
  | .groupMirrorTenant r => Sys2Proof.Machine.execGroupMirrorTenant r s
  | .groupRemove r => Sys2Proof.Machine.execGroupRemove r s
  | .groupRejoin r => Sys2Proof.Machine.execGroupRejoin r s
  | .groupRelayRing r => Sys2Proof.Machine.execGroupRelayRing r s
  | .groupSidebandId r => Sys2Proof.Machine.execGroupSidebandId r s
  | .logRead r => Sys2Proof.Machine.execLogRead r s
  | .healthTestFail src test => Sys2Proof.Machine.execHealthTestFail src test s
  | .sourceStartupPass src => Sys2Proof.Machine.execSourceStartupPass src s
  | .conditionedBlockReady => Sys2Proof.Machine.execConditionedBlockReady s
  | .drbgReseedInterval => Sys2Proof.Machine.execDrbgReseedInterval s
  | .drbgRequestLimit => Sys2Proof.Machine.execDrbgRequestLimit s
  | .drbgRecovery => Sys2Proof.Machine.execDrbgRecovery s
  | .rngCtrlReseed v => Sys2Proof.Machine.execRngCtrlReseed v s
  | .rngDataRead fn off size => Sys2Proof.Machine.execRngDataRead fn off size s
  | .rngBufferRefill fn => Sys2Proof.Machine.execRngBufferRefill fn s
  | .rngRawCtrlWrite v => Sys2Proof.Machine.execRngRawCtrlWrite v s
  | .hbmPatrol corrected uncorrected => Sys2Proof.Machine.execHbmPatrol corrected uncorrected s
  | .hbmLpbkOff pc b => Sys2Proof.Machine.execHbmLpbkOff pc b s
  | .hbmLpbkPhy pc errors => Sys2Proof.Machine.execHbmLpbkPhy pc errors s
  | .hbmLpbkFarEnd pc errors => Sys2Proof.Machine.execHbmLpbkFarEnd pc errors s
  | .hbmLpbkMarch pc errors => Sys2Proof.Machine.execHbmLpbkMarch pc errors s
  | .rindSensorEvent group cell b => Sys2Proof.Machine.execRindSensorEvent group cell b s
  | .rindStimulusCell group cell fired b => Sys2Proof.Machine.execRindStimulusCell group cell fired b s
  | .runAll silent b => Sys2Proof.Machine.execRunAll silent b s
  | .rndAlarmWrite v => Sys2Proof.Machine.execRndAlarmWrite v s
  | .xtalStable => Sys2Proof.Machine.execXtalStable s
  | .xtalStop => Sys2Proof.Machine.execXtalStop s
  | .faultEvent src unit detail m b => Sys2Proof.Machine.execFaultEvent src unit detail m b s
  | .graceExpire src b => Sys2Proof.Machine.execGraceExpire src b s
  | .fltAck v => Sys2Proof.Machine.execFltAck v s
  | .quietExpire src => Sys2Proof.Machine.execQuietExpire src s
  | .fltFirstSrcClear v => Sys2Proof.Machine.execFltFirstSrcClear v s
  | .opSecStore => Sys2Proof.Machine.execOpSecStore s
  | .powerStateEnter => Sys2Proof.Machine.execPowerStateEnter s
  | .powerWake cause => Sys2Proof.Machine.execPowerWake cause s
  | .p4Wake us b => Sys2Proof.Machine.execP4Wake us b s
  | .powerExitDone => Sys2Proof.Machine.execPowerExitDone s
  | .throttleRise region own spine => Sys2Proof.Machine.execThrottleRise region own spine s
  | .throttleFall region own spine => Sys2Proof.Machine.execThrottleFall region own spine s
  | .thermalShutdown sensor temp => Sys2Proof.Machine.execThermalShutdown sensor temp s
  | .avsSample up want => Sys2Proof.Machine.execAvsSample up want s
  | .pllLockLoss pll => Sys2Proof.Machine.execPllLockLoss pll s
  | .commitFrame f c => Sys2Proof.Machine.execCommitFrame f c s
  | .ackFrame f result => Sys2Proof.Machine.execAckFrame f result s
  | .heartbeatFrame f => Sys2Proof.Machine.execHeartbeatFrame f s
  | .resyncReqFrame f => Sys2Proof.Machine.execResyncReqFrame f s
  | .resyncDataFrame f slots last => Sys2Proof.Machine.execResyncDataFrame f slots last s
  | .leaveFrame f => Sys2Proof.Machine.execLeaveFrame f s
  | .frameSend peer => Sys2Proof.Machine.execFrameSend peer s
  | .heartbeatTimer => Sys2Proof.Machine.execHeartbeatTimer s
  | .memberSilent peer => Sys2Proof.Machine.execMemberSilent peer s
  | .mirrorTimeout fn => Sys2Proof.Machine.execMirrorTimeout fn s
  | .entdaa da => Sys2Proof.Machine.execEntdaa da s
  | .rstdaa => Sys2Proof.Machine.execRstdaa s
  | .enec bits => Sys2Proof.Machine.execEnec bits s
  | .disec bits => Sys2Proof.Machine.execDisec bits s
  | .getpid => Sys2Proof.Machine.execGetpid s
  | .getbcr => Sys2Proof.Machine.execGetbcr s
  | .getdcr => Sys2Proof.Machine.execGetdcr s
  | .getmwl => Sys2Proof.Machine.execGetmwl s
  | .getmrl => Sys2Proof.Machine.execGetmrl s
  | .setmwl n => Sys2Proof.Machine.execSetmwl n s
  | .setmrl n => Sys2Proof.Machine.execSetmrl n s
  | .getstatus => Sys2Proof.Machine.execGetstatus s
  | .rstact => Sys2Proof.Machine.execRstact s
  | .cccUnsupported code => Sys2Proof.Machine.execCccUnsupported code s
  | .hotJoin => Sys2Proof.Machine.execHotJoin s
  | .setEndpointId eid => Sys2Proof.Machine.execSetEndpointId eid s
  | .getEndpointId => Sys2Proof.Machine.execGetEndpointId s
  | .getMctpVersionSupport => Sys2Proof.Machine.execGetMctpVersionSupport s
  | .getMessageTypeSupport => Sys2Proof.Machine.execGetMessageTypeSupport s
  | .getEndpointUuid => Sys2Proof.Machine.execGetEndpointUuid s
  | .mctpVendorMailbox cmd r => Sys2Proof.Machine.execMctpVendorMailbox cmd r s
  | .sbLpbkOff => Sys2Proof.Machine.execSbLpbkOff s
  | .sbLpbkPad errors => Sys2Proof.Machine.execSbLpbkPad errors s
  | .sbLpbkProtocol errors => Sys2Proof.Machine.execSbLpbkProtocol errors s
  | .extest => Sys2Proof.Machine.execExtest s
  | .extestPulse => Sys2Proof.Machine.execExtestPulse s
  | .extestTrain => Sys2Proof.Machine.execExtestTrain s
  | .idcode => Sys2Proof.Machine.execIdcode s
  | .samplePreload v => Sys2Proof.Machine.execSamplePreload v s
  | .bypass code => Sys2Proof.Machine.execBypass code s
  | .lcToken tok whole => Sys2Proof.Machine.execLcToken tok whole s
  | .lcNonceRd => Sys2Proof.Machine.execLcNonceRd s
  | .debugPort code place wr data => Sys2Proof.Machine.execDebugPort code place wr data s
  | .memoryTest code place wr data => Sys2Proof.Machine.execMemoryTest code place wr data s
  | .tapReset => Sys2Proof.Machine.execTapReset s
  | .orcTraceCtrlWrite v => Sys2Proof.Machine.execOrcTraceCtrlWrite v s
  | .tickBoundary => Sys2Proof.Machine.execTickBoundary s
  | .registerRead fn bar off size => Sys2Proof.Machine.execRegisterRead fn bar off size s
  | .mailboxUnknownCommand r cmd => Sys2Proof.Machine.execMailboxUnknownCommand r cmd s
  | .mctpTypeDropped typ => Sys2Proof.Machine.execMctpTypeDropped typ s
  | .doeDiscovery index => Sys2Proof.Machine.execDoeDiscovery index s
  | .mainRailsOff => Sys2Proof.Machine.execMainRailsOff s
  | .standbySupplyLoss => Sys2Proof.Machine.execStandbySupplyLoss s
  | .standbySupplyReturn => Sys2Proof.Machine.execStandbySupplyReturn s
  | .rindConditionEnd group => Sys2Proof.Machine.execRindConditionEnd group s

end Sys2Proof.Machine
end

