-- ==== Sys2Proof/Machine/Step.lean ====
section
/-! DEFINITION. One step: the command at the front of the queue runs with the queue's rest. On an empty queue
ENG_CLK goes on by one cycle (assumption 2). -/

namespace Sys2Proof.Machine

/-- Take the command at the front of the queue and run it on the state with the queue's rest. Where none waits, a sideband message
that was held in P4 is served (R445), or else one cycle passes. -/
def step (s : State) : Host.Outcome State Fault Refusal :=
  match s.pending with
  | [] => match s.heldNext with
    | some (c, s1) => exec c s1
    | none => .next s.cycle
  | c :: rest => exec c { s with pending := rest }

/-- The state with the command a word spells at the front of its queue. The opcode table gives no row any bits,
so no word spells a command and the state is unchanged. -/
def State.withFetchWord (s : State) (nbits w : Nat) : State :=
  match decodeTableWord nbits w with
  | none => s
  | some c => { s with pending := c :: s.pending }

end Sys2Proof.Machine
end

