-- ==== Sys2Proof/Safety.lean ====
section
/-! DEFINITION. What claims speak of: the invariant of OTP, the main domain down and up, and a mailbox request that every
check lets through. -/

namespace Sys2Proof.Machine

/-- A life-cycle row that is complete has been started (R356). -/
def State.otpWf (s : State) : Prop := ∀ r, rowBit s.lc.complete r = true → rowBit s.lc.started r = true

/-- The tables of functions and queue pairs and the ledger's memory are in canonical form, and there are four regions
(R9). -/
def State.tablesWf (s : State) : Prop :=
  Tab.wf {} s.fns = true ∧ Tab.wf {} s.qm.qps = true ∧ Tab.wf 0 s.log.mem = true ∧ s.orc.regions.length = 4

/-- What the vault's slots hold stays: occupancy, attribute word, counter and uses. A reservation may be freed. -/
def State.keysKept (s t : State) : Prop :=
  ∀ a n, (t.slot a n).occ = (s.slot a n).occ ∧ (t.slot a n).attr = (s.slot a n).attr
    ∧ (t.slot a n).counter = (s.slot a n).counter ∧ (t.slot a n).uses = (s.slot a n).uses

/-- `t` has the main domain of `s` down: what only the main domain held is gone, and what R116 and R434 keep at cold reset
stays. -/
def State.downTo (s t : State) : Prop :=
  t.qm = {} ∧ t.orc.items = [] ∧ t.hbm = {} ∧ t.spdm = {} ∧ t.hif = { buses := s.hif.buses, ari := s.hif.ari }
    ∧ t.flt.cause = 0 ∧ t.vlt.unsealed = false ∧ t.vlt.vek = false ∧ t.vlt.ksKey = false ∧ t.mp.running = false
    ∧ s.keysKept t
    ∧ t.mp.bankA = s.mp.bankA ∧ t.mp.bankB = s.mp.bankB
    ∧ t.lc.started = s.lc.started ∧ t.lc.complete = s.lc.complete ∧ t.lc.ikh = s.lc.ikh
    ∧ t.nv.fuses = s.nv.fuses ∧ t.nv.svnMin = s.nv.svnMin ∧ t.nv.headerMwk = s.nv.headerMwk
    ∧ t.log.mem = s.log.mem ∧ t.log.recs = s.log.recs
    ∧ t.outbox = s.outbox ∧ t.pending = s.pending ∧ t.free = s.free

/-- `t` is the main domain of `s` after a cold boot that moves no life-cycle state. -/
def State.upTo (s : State) (b : BootIn) (t : State) : Prop :=
  let on := trains b.rate b.width
  t.hif.linkUp = on ∧ t.hif.rate = (if on then b.rate else 0) ∧ t.hif.width = (if on then b.width else 0)
    ∧ t.hif.flit = (on && (b.flit || b.rate == 4)) ∧ t.hif.cfgReady = on ∧ t.pwr.rootLock = true
    ∧ t.lc.started = s.lc.started ∧ t.lc.complete = s.lc.complete ∧ t.lc.ikh = s.lc.ikh
    ∧ (s.scrapped = false → t.hbm.trained = true ∧ t.flt.cfgLoaded = true ∧ t.rnd.configValid = true
        ∧ t.rnd.stored = true)

/-- An SPDM request is received: MCTP counts it (R444). -/
def State.heard (s : State) (t : Transport) : State := if t = .mctp then s.rxMctp else s

/-- A request reaches an idle mailbox that serves it, and passes the checks 1 to 5 of R337: the hypothesis under which a
command has its own effect. -/
def State.mbTakes (s : State) (code : Nat) (r : MbReq) (lens : List Nat) (masks : List QWord) : Prop :=
  s.mbReaches r.fn.val = true ∧ (s.fn r.fn.val).mb.busy = false ∧ s.serves r.fn.val = true
    ∧ (s.mbGo r.fn.val).mbCheck code r lens masks = none

end Sys2Proof.Machine
end

