-- ==== Sys2Proof/Certificates/Slice0/Obligations.lean ====
section
/-! DEFINITION. The statements for the provers. Each names the rules of spec/ it comes from; where it rests on a choice
of the model its docstring names the assumption. A conclusion `exec c s = .next t` also says that the command completes,
and a record update says by itself what stays as it was. -/

open Sys2Proof Sys2Proof.Machine

/-! ## The machine as a whole -/

/-- A step with a command at the front of the queue is the command's effect on the state with the queue's rest. On an empty queue
a sideband message that was held in P4 is served (R445), or one cycle of ENG_CLK passes, which none but a clocked device
performs (assumption 2). -/
def Obligations.StepRunsFront : Prop :=
  (∀ (c : Instr) (rest : List Instr) (s : State), s.pending = c :: rest →
    step s = exec c { s with pending := rest })
  ∧ (∀ (c : Instr) (l : List Instr) (s : State), s.pending = [] → s.sb.held = c :: l → s.up = true → s.pwr.state ≠ 4 →
      step s = exec c { s with sb := { s.sb with held := l } })
  ∧ ∀ s : State, s.pending = [] → s.sb.held = [] ∨ s.up = false ∨ s.pwr.state = 4 →
      step s = .next s.cycle ∧ (s.up = false ∨ 2 ≤ s.pwr.state → s.cycle = s.stageEnd)

/-- Every command that names only units and cells that exist has an effect in every state; no command is refused, and a
fault only ever says that a unit does not exist (R9, R10, R371). -/
def Obligations.EveryCommandRuns : Prop :=
  (∀ (c : Instr) (s : State), c.wf = true → ∃ t, exec c s = .next t)
  ∧ (∀ (c : Instr) (s : State) (r : Refusal), exec c s ≠ .refused r)
  ∧ ∀ (c : Instr) (s : State) (f : Fault), exec c s = .fault f → f = .noSuchUnit ∧ c.wf = false

/-- No command reads or changes the queue of the commands that follow it (assumption 2): a step takes exactly its own
command off. -/
def Obligations.QueueIsUntouched : Prop :=
  ∀ (c : Instr) (s t : State), exec c s = .next t → t.pending = s.pending

/-- What one-time programmable memory holds only grows: no step clears the burn of a life-cycle row or a Rind fuse, or
lowers the minimum SVN; so the life-cycle state never goes back, and SCRAPPED is final. A row that is burnt whole has been
begun. -/
def Obligations.OtpOnlyGrows : Prop :=
  ∀ s t : State, step s = .next t →
    (∀ r, rowBit s.lc.started r = true → rowBit t.lc.started r = true)
    ∧ (∀ r, rowBit s.lc.complete r = true → rowBit t.lc.complete r = true)
    ∧ s.lcState ≤ t.lcState ∧ (s.scrapped = true → t.scrapped = true)
    ∧ (∀ g, s.nv.fuses.getLsbD g = true → t.nv.fuses.getLsbD g = true)
    ∧ s.nv.svnMin ≤ t.nv.svnMin
    ∧ (s.otpWf → t.otpWf)

/-- Every step keeps the tables of functions and queue pairs and the ledger's memory in canonical form: keys rise, and
nothing is listed that an unlisted key reads as (assumption 14); and there stay four regions (R9). -/
def Obligations.TablesKeepTheirForm : Prop :=
  ∀ s t : State, step s = .next t → s.tablesWf → t.tablesWf

/-- State.reset meets the invariants that OtpOnlyGrows and TablesKeepTheirForm keep, and stands in MAKER with blank OTP
(R356; the model's reset point, assumption 5). -/
def Obligations.ResetIsBlank : Prop :=
  State.reset.otpWf ∧ State.reset.tablesWf ∧ State.reset.lcState = 1 ∧ State.reset.nv.fuses = 0 ∧ State.reset.nv.svnMin = 0
    ∧ State.reset.pending = []

/-! ## Operations that many commands share -/

/-- READY follows its conditions (R36): after the update that every command ends with, a function that holds a record has
READY set exactly when its conditions hold, and nothing changed but function records and what is sent (R31). -/
def Obligations.ReadyFollowsItsConditions : Prop :=
  ∀ s : State, s.tablesWf →
    (∀ f ∈ s.fnList, (s.refresh.fn f).port.ready = s.readyCond f (s.fn f))
    ∧ s.refresh = { s with fns := s.refresh.fns, outbox := s.refresh.outbox }
    ∧ ∀ f, (s.refresh.fn f).ten = (s.fn f).ten ∧ (s.refresh.fn f).share = (s.fn f).share ∧ (s.refresh.fn f).mb = (s.fn f).mb
        ∧ (s.refresh.fn f).port.flrBusy = (s.fn f).port.flrBusy

/-- A message on a vector (R37): sent while neither the vector nor the function is masked and Bus Master Enable is 1; while
masked the PBA bit holds it, and nothing else changes. Unmasking a vector sends what its PBA bit holds, once; with no bit
pending, only the mask changes. -/
def Obligations.MsixSendsOrHolds : Prop :=
  (∀ (s : State) (f v : Nat),
      ((s.fn f).msixMask = false → ((s.fn f).vec v).mask = false → (s.fn f).port.bme = true →
        s.sendMsix f v = { s with outbox := s.outbox ++ [.msix f v ((s.fn f).vec v).addr ((s.fn f).vec v).data] })
      ∧ ((s.fn f).msixMask = true ∨ ((s.fn f).vec v).mask = true → (s.sendMsix f v).outbox = s.outbox
        ∧ (((s.sendMsix f v).fn f).vec v).pba = true
        ∧ (∀ w, w ≠ v → ((s.sendMsix f v).fn f).vec w = (s.fn f).vec w) ∧ ∀ g, g ≠ f → (s.sendMsix f v).fn g = s.fn g)
      ∧ s.sendMsix f v = { s with fns := (s.sendMsix f v).fns, outbox := (s.sendMsix f v).outbox })
  ∧ (∀ (s : State) (fn : Fin 1024) (v : Nat), s.reaches fn.val = true → (s.fn fn.val).port.mse = true →
      s.scrapped = false → v < (s.fn fn.val).ten.msix →
      ∃ t, exec (.msixUnmask fn v) s = .next t ∧ ((t.fn fn.val).vec v).mask = false
        ∧ ((t.fn fn.val).vec v).pba = (((s.fn fn.val).vec v).pba && (s.fn fn.val).msixMask)
        ∧ t.outbox = s.outbox ++ (if ((s.fn fn.val).vec v).pba && !(s.fn fn.val).msixMask && (s.fn fn.val).port.bme then
            [.msix fn.val v ((s.fn fn.val).vec v).addr ((s.fn fn.val).vec v).data] else [])
        ∧ (∀ w, w ≠ v → (t.fn fn.val).vec w = (s.fn fn.val).vec w) ∧ (∀ g, g ≠ fn.val → t.fn g = s.fn g)
        ∧ (t.fn fn.val).port = (s.fn fn.val).port ∧ (t.fn fn.val).mb = (s.fn fn.val).mb
        ∧ (t.fn fn.val).ten = (s.fn fn.val).ten ∧ t = { s with fns := t.fns, outbox := t.outbox })
  ∧ (∀ (s : State) (fn : Fin 1024) (v : Nat),
      (s.reaches fn.val = false → exec (.msixUnmask fn v) s = .next s)
      ∧ (s.reaches fn.val = true → (s.fn fn.val).port.mse = false →
        exec (.msixUnmask fn v) s = .next { s with outbox := s.outbox ++ [.unsupported] })
      ∧ (s.reaches fn.val = true → (s.fn fn.val).port.mse = true → s.scrapped = true ∨ (s.fn fn.val).ten.msix ≤ v →
        exec (.msixUnmask fn v) s = .next s))

/-- A mailbox response (R333, R334, R335): BUSY clears, DONE sets, the buffer starts with COMMAND, FORMAT 1, STATUS, REASON,
FLAGS, the payload's length, TOKEN and EPOCH; no other function and no other register group changes. -/
def Obligations.ResponseFillsTheMailbox : Prop :=
  ∀ (s : State) (fn cmd flags : Nat) (token : Word) (st : Status) (why : Reason) (payload : List Byte),
    let t := s.mbRespond fn cmd token st why flags payload
    (t.fn fn).mb.busy = false ∧ (t.fn fn).mb.done = true ∧ (t.fn fn).mb.vec = (s.fn fn).mb.vec
      ∧ (t.fn fn).mb.ien = (s.fn fn).mb.ien
      ∧ Tab.leNat (t.fn fn).mb.buf 0 2 = cmd % 65536 ∧ Tab.leNat (t.fn fn).mb.buf 2 1 = 1
      ∧ Tab.leNat (t.fn fn).mb.buf 3 1 = st.code ∧ Tab.leNat (t.fn fn).mb.buf 4 1 = why.code
      ∧ Tab.leNat (t.fn fn).mb.buf 5 1 = flags % 256 ∧ Tab.leNat (t.fn fn).mb.buf 6 2 = payload.length % 65536
      ∧ Tab.leNat (t.fn fn).mb.buf 8 4 = token.toNat ∧ Tab.leNat (t.fn fn).mb.buf 12 4 = s.mp.epoch % 4294967296
      ∧ (∀ k, k < payload.length → Tab.get 0 (t.fn fn).mb.buf (32 + k) = payload.getD k 0)
      ∧ (∀ g, g ≠ fn → t.fn g = s.fn g)
      ∧ t = { s with fns := t.fns, outbox := t.outbox }

/-- The ledger (R410, R412, R415, R416): a record keeps the ledger's memory in canonical form and changes nothing else than
the recorder; in SCRAPPED nothing is recorded, and a repeat of the newest record only counts. -/
def Obligations.LedgerKeepsItsForm : Prop :=
  ∀ (s : State) (typ writer : Nat) (body : List Byte) (cmp : List Nat),
    let t := s.logRecord typ body cmp writer
    (Tab.wf 0 s.log.mem = true → Tab.wf 0 t.log.mem = true)
    ∧ t = { s with log := t.log }
    ∧ (s.scrapped = true → t = s)
    ∧ (s.scrapped = false → s.logIsRepeat typ cmp = true → t.log.nextSeq = s.log.nextSeq ∧ t.log.recs = s.log.recs
        ∧ t.log.newestRepeat = s.log.newestRepeat + 1 ∧ t.log.inSec = s.log.inSec)

/-- Raising a source (R392 to R397): a reserved source does nothing. Any other sets its cause bit, keeps or begins ACTIVE,
carries the present condition and clears ACKED; and whatever its level does, the link, the SPDM session, queue pairs, OTP,
vault slots, firmware banks, entropy, power, sideband and TAP stay, and so do the tick and the queue. -/
def Obligations.RaisingAFault : Prop :=
  ∀ (s : State) (n unit detail : Nat) (present : Bool),
    let t := s.raiseLow n unit detail present
    (srcReserved n = true → t = s)
    ∧ (srcReserved n = false → n < 256 → t.flt.cause = s.flt.cause ||| BitVec.ofNat 256 (2 ^ n)
        ∧ (t.src n).state = (if (s.src n).state = 0 then 1 else (s.src n).state) ∧ (t.src n).present = present
        ∧ (t.src n).acked = false ∧ (t.src n).lastUnit = unit ∧ (t.src n).lastDetail = detail
        ∧ s.rnd.level ≤ t.rnd.level)
    ∧ t.hif = s.hif ∧ t.spdm = s.spdm ∧ t.qm = s.qm ∧ t.lc = s.lc ∧ t.nv.fuses = s.nv.fuses ∧ t.nv.svnMin = s.nv.svnMin
    ∧ t.vlt.slots = s.vlt.slots ∧ t.mp = s.mp ∧ t.rng = s.rng ∧ t.pwr = s.pwr ∧ t.sb = s.sb ∧ t.tap = s.tap
    ∧ t.orc.tick = s.orc.tick ∧ t.pending = s.pending

/-! ## Supplies, reset and boot -/

/-- Supplies and clocks (R372, R384, R411, R433, R463): the always-on domain powers up with Rind on the standby supply or
the backup cell; good main rails, while PERST_N is asserted, count a power-up and add 60 s to the stored OP_SEC; losing or
regaining the standby supply moves Rind between supplies 1 and 2 while the main rails are off. Everything else stays. -/
def Obligations.SuppliesComeAndGo : Prop :=
  ∀ s : State,
    (s.pwr.vaon = false → exec .vaonPowerOn s = .next { s with
      pwr := { s.pwr with vaon := true }
      rnd := { s.rnd with supply := if s.pwr.standby then 1 else 2, lostAt := s.rnd.us, configValid := s.rnd.stored } })
    ∧ (s.pwr.vaon = true → exec .vaonPowerOn s = .next s)
    ∧ (s.pwr.vaon = true → s.pwr.main = false → s.pwr.perst = true → exec .mainRailsGood s = .next { s with
        pwr := { s.pwr with main := true }
        rnd := { s.rnd with supply := 0, lostAt := s.rnd.us }
        log := { s.log with pcycle := (s.log.pcycle + 1) % 2 ^ 24, opSec := s.log.opStored + 60
                            opStored := s.log.opStored + 60, upAt := s.rnd.us } })
    ∧ (s.pwr.vaon = false ∨ s.pwr.main = true ∨ s.pwr.perst = false → exec .mainRailsGood s = .next s)
    ∧ exec .standbySupplyLoss s = .next { s with
        pwr := { s.pwr with standby := false }, rnd := { s.rnd with supply := if s.rnd.supply = 0 then 0 else 2 } }
    ∧ exec .standbySupplyReturn s = .next { s with
        pwr := { s.pwr with standby := true }, rnd := { s.rnd with supply := if s.rnd.supply = 0 then 0 else 1 } }
    ∧ (s.pwr.vaon = true → exec .xtalStable s = .next { s with pwr := { s.pwr with xtal := true } })
    ∧ (s.pwr.vaon = false → exec .xtalStable s = .next s)
    ∧ exec .xtalStop s = .next { s with pwr := { s.pwr with xtal := false } }

/-- The main domain goes down (R116, R309, R359, R361, R434, R437, R463, R464, R471): whichever of PERST_N, the rails, a
brown-out, a thermal shutdown, an EXTEST instruction or the loss of VAON takes it, queue pairs, items, HBM contents, the
fault cause bits and the unsealed vault are lost, while vault slots, firmware banks, OTP, the ledger's bytes and what waits
to be sent stay. With the rails the token buffer and the retained nonce go too, and with VAON also the MWK and the
sideband's addresses. -/
def Obligations.MainDomainGoesDown : Prop :=
  ∀ s : State,
    (s.pwr.perst = false → ∃ t, exec .perstNAssert s = .next t ∧ s.downTo t ∧ t.pwr.perst = true ∧ t.sb = s.sb.afterReset
      ∧ t.lc.token = s.lc.token ∧ t.lc.retained = s.lc.retained ∧ t.nv.mwk = s.nv.mwk)
    ∧ (s.pwr.main = true → s.pwr.perst = true → ∃ t, exec .mainRailsOff s = .next t ∧ s.downTo t ∧ t.pwr.main = false
      ∧ t.sb = s.sb.afterReset ∧ t.lc.token = none ∧ t.lc.retained = 0 ∧ t.nv.mwk = s.nv.mwk
      ∧ t.rnd.supply = if s.pwr.standby then 1 else 2)
    ∧ (s.pwr.main = true → s.pwr.perst = false → ∃ t, exec .brownOut s = .next t ∧ s.downTo t ∧ t.pwr.main = false
      ∧ t.sb = s.sb.afterReset ∧ t.lc.token = none ∧ t.lc.retained = 0 ∧ t.nv.mwk = s.nv.mwk)
    ∧ (s.pwr.vaon = true → ∃ t, exec .vaonLoss s = .next t ∧ s.downTo t ∧ t.pwr.vaon = false ∧ t.pwr.main = false
      ∧ t.sb = {} ∧ t.nv.mwk = none ∧ t.lc.token = none ∧ t.rnd.latch = [] ∧ t.rnd.hold = false ∧ t.rnd.cfg = s.rnd.cfg)
    ∧ (∀ (sensor : Fin 5) (temp : Byte), s.up = true → s.pwr.state ≠ 4 → 115 ≤ temp.toInt →
        ∃ t, exec (.thermalShutdown sensor temp) s = .next t ∧ s.downTo t ∧ t.pwr.held = true ∧ t.pwr.shutFlag = true
          ∧ t.hif.linkUp = false ∧ t.sb = s.sb.afterReset ∧ t.nv.mwk = s.nv.mwk)
    ∧ (∀ c ∈ [(Instr.extest, (0x00 : Byte)), (Instr.extestPulse, 0x03), (Instr.extestTrain, 0x04)],
      (s.pwr.main = true → s.scrapped = false → s.pwr.extest = false →
        ∃ t, exec c.1 s = .next t ∧ s.downTo t ∧ t.pwr.extest = true ∧ t.tap.ir = c.2 ∧ t.up = false ∧ t.sb = s.sb.afterReset)
      ∧ (s.pwr.main = true → s.scrapped = false → s.pwr.extest = true →
        exec c.1 s = .next { s with tap := { s.tap with ir := c.2 } })
      ∧ (s.pwr.main = true → s.scrapped = true →
        exec c.1 s = .next { s with tap := { s.tap with ir := 0xFF }, outbox := s.outbox ++ [.tdo 1 0] })
      ∧ (s.pwr.main = false → exec c.1 s = .next s))
    ∧ (s.pwr.perst = true → exec .perstNAssert s = .next s)
    ∧ (s.pwr.main = false ∨ s.pwr.perst = false → exec .mainRailsOff s = .next s)
    ∧ (s.pwr.main = false ∨ s.pwr.perst = true → exec .brownOut s = .next s)
    ∧ (s.pwr.vaon = false → exec .vaonLoss s = .next s)
    ∧ ∀ (sensor : Fin 5) (temp : Byte), s.up = false ∨ s.pwr.state = 4 ∨ temp.toInt < 115 →
        exec (.thermalShutdown sensor temp) s = .next s

/-- The main domain comes up (R42, R354, R359, R360, R386, R435, R437, R464, R471): after PERST_N is released, after a
brown-out, and at the resets that a mailbox command schedules. A thermal hold that is not cool, and a loaded EXTEST, keep the
domain down; a release or a recovery without its cause, and a reset that is not due, change nothing. A cold boot with no token in the buffer
and no transition interrupted leaves the life-cycle rows and the integrator key hash; the link stands as it trained, HBM is
trained, Rind's configuration and the fault collector's are loaded and the root clock locks. A SCRAPPED device comes up
with its clock and its link alone. -/
def Obligations.MainDomainComesUp : Prop :=
  (∀ (b : BootIn) (s : State), s.pwr.vaon = true → s.pwr.main = true → s.pwr.perst = true →
    let x := s.released b
    exec (.perstNRelease b) s = .next (if x.up then x.boot b 0 else x)
    ∧ x = { s with pwr := x.pwr } ∧ x.pwr.perst = false
    ∧ (x.up = true ↔ (s.pwr.held = false ∨ (s.pwr.sampled b.temps).cool = true) ∧ s.extestLoaded = false))
  ∧ (∀ (b : BootIn) (s : State), s.pwr.vaon = false ∨ s.pwr.main = false ∨ s.pwr.perst = false →
      exec (.perstNRelease b) s = .next s)
  ∧ (∀ (b : BootIn) (s : State), s.pwr.vaon = true → s.pwr.main = false → s.pwr.perst = false →
      let x := s.countPowerUp
      exec (.brownOutRecover b) s = .next (if x.up then x.boot b 0 else x)
      ∧ x.pwr = { s.pwr with main := true } ∧ (x.up = true ↔ s.pwr.held = false ∧ s.pwr.extest = false))
  ∧ (∀ (b : BootIn) (s : State), s.pwr.vaon = false ∨ s.pwr.main = true ∨ s.pwr.perst = true →
      exec (.brownOutRecover b) s = .next s)
  ∧ (∀ (b : BootIn) (s : State),
      (s.up = true → s.due s.lc.schedLc = true → exec (.lcReset b) s = .next (s.coldClear.boot b 2))
      ∧ (s.up = true → s.due s.lc.schedLc = false → s.due s.lc.schedWarm = true → exec (.lcReset b) s = .next (s.warm b))
      ∧ (s.up = false ∨ (s.due s.lc.schedLc = false ∧ s.due s.lc.schedWarm = false) → exec (.lcReset b) s = .next s))
  ∧ ∀ (b : BootIn) (s : State) (cause : Nat), cause ≠ 1 → s.interrupted = none → s.lc.token = none →
      s.upTo b (s.boot b cause)

/-- The life-cycle reset carries out the transition of a buffered token that still passes its checks (R357 to R360): the
intent and state rows of the target are burnt whole, the state is the target, the integrator key hash is the token's where
INTEGRATOR is entered, where no loss of power cuts it (R370), the buffer is empty and LC_LAST_RESULT says that ACTION 1 ended with ST_OK. -/
def Obligations.LifeCycleMovesByToken : Prop :=
  ∀ (b : BootIn) (s : State) (k : Token), s.up = true → s.due s.lc.schedLc = true → s.interrupted = none →
    b.lcCut = none → s.scrapped = false → s.lc.token = some k → k.action = 1 → s.tokenBad k s.lc.retained = none → s.tokenSigsOk k = true →
    s.highAlarm = false →
    ∃ t, exec (.lcReset b) s = .next t ∧ t.lcState = k.toLc ∧ s.lcState < k.toLc
      ∧ rowBit t.lc.complete (intentRow k.toLc) = true ∧ rowBit t.lc.complete (stateRow k.toLc) = true
      ∧ rowBit t.lc.started (intentRow k.toLc) = true ∧ rowBit t.lc.started (stateRow k.toLc) = true
      ∧ t.lc.ikh = (if k.toLc = 2 then k.newIkh else s.lc.ikh) ∧ (k.toLc = 2 → t.lc.ikhSet = true)
      ∧ t.lc.token = none ∧ t.lc.resValid = true ∧ t.lc.resAction = 1 ∧ t.lc.resStatus = 0 ∧ t.lc.schedLc = none
      ∧ t.lc.schedWarm = none

/-- A warm reset (R116, R117, R380, R385), at its instant after a plain RECOVERY: queue pairs, the SPDM session and work
leave; the link, MSI-X tables, tenant configuration, vault slots, life-cycle rows, alarms of Rind,
the tick and the ledger's power-cycle count stay. -/
def Obligations.WarmResetKeeps : Prop :=
  ∀ (b : BootIn) (s : State), s.up = true → s.due s.lc.schedLc = false → s.due s.lc.schedWarm = true →
    s.interrupted = none → s.lc.token = none → s.tablesWf →
    ∃ t, exec (.lcReset b) s = .next t ∧ t = s.warm b ∧ t.qm = {} ∧ t.spdm = {} ∧ t.orc.items = []
      ∧ t.hif.linkUp = s.hif.linkUp ∧ t.hif.rate = s.hif.rate ∧ t.hif.width = s.hif.width ∧ t.hif.keyed = s.hif.keyed
      ∧ t.hif.lpbkDepth = 0 ∧ t.orc.tick = s.orc.tick ∧ t.lc.started = s.lc.started ∧ t.lc.complete = s.lc.complete
      ∧ t.rnd.alarm = s.rnd.alarm ∧ t.log.pcycle = s.log.pcycle ∧ t.pwr.main = true
      ∧ t.lc.schedWarm = none ∧ ∀ f, (t.fn f).ten.st = (s.fn f).ten.st ∧ (t.fn f).ten.slots = (s.fn f).ten.slots
        ∧ ∀ v, ((t.fn f).vec v).addr = ((s.fn f).vec v).addr ∧ ((t.fn f).vec v).mask = ((s.fn f).vec v).mask


/-! ## The link and configuration space -/

/-- The link and what the VFs of configuration space do (R20, R23, R36, R37, R39, R42, R116): link-down drops the work, the
queue pairs and the records of configuration space, is recorded and raises HIF_LINK; training sets rate and width; VF Enable
and NumVFs follow the bus range. A VF that VF Enable takes away is reset as by FLR. -/
def Obligations.LinkAndVfs : Prop :=
  ∀ s : State,
    (∀ how, s.up = true → s.hif.linkUp = true →
      exec (.linkDown how) s = .next ((s.linkDrop.logWord 0x070 (linkCode how) 0).raise 2 0xFF 0))
    ∧ (s.linkDrop.hif = { s.hif with
        linkUp := false, flit := false, rate := 0, width := 0, cfgReady := false, vfEnable := false, numVfs := 0, vfSetAt := none
        vfBar0 := 0, vfBar2 := 0, ltrEnable := false, ltrMax := 0, ltrMaxNo := 0, linkSecure := false, selSecure := 0, keyed := 0
        linkBroken := false }
      ∧ s.linkDrop.spdm = {} ∧ (∀ it ∈ s.linkDrop.orc.items, it.fn ∉ s.fnList)
      ∧ (∀ f ∈ s.fnList, ∀ q, s.linkDrop.qp f q = {}) ∧ s.keysKept s.linkDrop ∧ s.linkDrop.lc = s.lc
      ∧ s.linkDrop.nv = s.nv ∧ s.linkDrop.log = s.log ∧ s.linkDrop.pwr = s.pwr ∧ s.linkDrop.flt.cause = s.flt.cause)
    ∧ (∀ rate width flit, s.up = true → trains rate width = true →
      exec (.linkRetrain rate width flit) s = .next ({ s with hif := { s.hif with
        linkUp := true, rate := rate, width := width, flit := flit || rate == 4, cfgReady := true
        lpbkPartner := false, linkBroken := false } }).refresh)
    ∧ (s.reaches 0 = true → s.scrapped = false →
      exec .vfEnableSet s = .next ({ s with hif := { s.hif with
        vfEnable := true, vfSetAt := if s.hif.vfEnable then s.hif.vfSetAt else some s.now } }).refresh)
    ∧ (s.reaches 0 = true → s.hif.vfEnable = true → exec .vfEnableClear s = .next s.vfsOff
      ∧ s.vfsOff.hif = { s.hif with vfEnable := false, vfSetAt := none } ∧ s.vfsOff.log = s.log ∧ s.keysKept s.vfsOff
      ∧ ∀ f ∈ s.fnList, f ≠ 0 → (∀ q, s.vfsOff.qp f q = {}) ∧ (s.vfsOff.fn f).port.mse = false
        ∧ (s.vfsOff.fn f).port.bme = false ∧ (s.vfsOff.fn f).ten = (s.fn f).ten)
    ∧ (∀ n, s.reaches 0 = true → s.hif.vfEnable = false → s.scrapped = false →
      exec (.numvfsWrite n) s = .next { s with hif := { s.hif with
        numVfs := min n.toNat (min (if s.hif.ari then 1023 else 0) (256 * s.hif.buses - 1)) } })
    ∧ (∀ (fn : Fin 1024) (v : Bool), s.cfgReaches fn.val = true →
      exec (.memorySpaceEnableWrite fn v) s = .next (s.setPort fn.val { (s.fn fn.val).port with mse := v })
      ∧ exec (.busMasterEnableWrite fn v) s = .next (s.setPort fn.val { (s.fn fn.val).port with bme := v }))
    ∧ (∀ how, s.up = false ∨ s.hif.linkUp = false → exec (.linkDown how) s = .next s)
    ∧ (∀ rate width flit, s.up = false ∨ trains rate width = false → exec (.linkRetrain rate width flit) s = .next s)
    ∧ (s.reaches 0 = false ∨ s.scrapped = true → exec .vfEnableSet s = .next s)
    ∧ (s.reaches 0 = false ∨ s.hif.vfEnable = false → exec .vfEnableClear s = .next s)
    ∧ (∀ n, s.reaches 0 = false ∨ s.hif.vfEnable = true ∨ s.scrapped = true → exec (.numvfsWrite n) s = .next s)
    ∧ (∀ (fn : Fin 1024) (v : Bool), s.cfgReaches fn.val = false →
      exec (.memorySpaceEnableWrite fn v) s = .next s ∧ exec (.busMasterEnableWrite fn v) s = .next s)

/-- Function-level reset (R91, R116 to R118): FLR_BUSY sets and READY falls at once, the mailbox is emptied, the random
buffer goes and no item of the function is left; when it is done, FLR_BUSY, Memory Space Enable and Bus Master Enable are
0, the MSI-X table and every queue pair of the function are gone. Vault slots stay, and so do other functions' queue pairs; an FLR
of the PF clears VF Enable, and with it the queue pairs of the VFs. -/
def Obligations.FunctionReset : Prop :=
  ∀ (s : State) (fn : Fin 1024), s.tablesWf →
    (s.cfgReaches fn.val = true →
      ∃ t, exec (.flrInitiate fn) s = .next t ∧ (t.fn fn.val).port.flrBusy = true ∧ (t.fn fn.val).port.ready = false
        ∧ (t.fn fn.val).mb.busy = false ∧ (t.fn fn.val).mb.done = false ∧ (t.fn fn.val).mb.buf = []
        ∧ (t.fn fn.val).rngw.buf = [] ∧ (∀ it ∈ t.orc.items, it.fn ≠ fn.val)
        ∧ s.keysKept t ∧ t.lc = s.lc ∧ t.log = s.log ∧ t.hif.numVfs = s.hif.numVfs
        ∧ (fn.val ≠ 0 ∨ s.hif.vfEnable = false → t.hif = s.hif ∧ ∀ g q, g ≠ fn.val → t.qp g q = s.qp g q)
        ∧ (fn.val = 0 → s.hif.vfEnable = true → t.hif.vfEnable = false ∧ ∀ f ∈ s.fnList, f ≠ 0 → ∀ q, t.qp f q = {}))
    ∧ (s.cfgReaches fn.val = false → exec (.flrInitiate fn) s = .next s)
    ∧ (s.up = true → (s.fn fn.val).port.flrBusy = true →
      ∃ t, exec (.flrDone fn) s = .next t ∧ (t.fn fn.val).port.flrBusy = false ∧ (t.fn fn.val).port.mse = false
        ∧ (t.fn fn.val).port.bme = false ∧ (∀ q, t.qp fn.val q = {})
        ∧ (∀ g q, g ≠ fn.val → t.qp g q = s.qp g q ∧ t.fn g = s.fn g)
        ∧ (t.fn fn.val).port.ready = ((s.fnFinish fn.val).readyCond fn.val ((s.fnFinish fn.val).fn fn.val))
        ∧ t = { s with fns := t.fns, qm := t.qm, outbox := t.outbox })
    ∧ (s.up = false ∨ (s.fn fn.val).port.flrBusy = false → exec (.flrDone fn) s = .next s)

/-- IDE (R30, R37, R38): a stream that fails its integrity check leaves the Secure state and needs new keys, its functions are
reset and what still comes on it is dropped, and the failure is recorded and raises HIF_IDE with the stream; where IDE_REQUIRE is 1, a TLP outside IDE is logged against its function,
and a read completes with Unsupported Request. -/
def Obligations.IdeGuardsTheLink : Prop :=
  ∀ s : State,
    (∀ (stream : Fin 9) (fns : List (Fin 1024)), s.up = true → s.streamSecure stream = true →
      let a := (s.streamOff stream fns).breakStream stream fns
      let l := if stream.val = 8 then a.fnList else fns.map (·.val)
      let d := (a.dropFns l).refresh
      exec (.ideIntegrityFail stream fns) s = .next ((d.logWord 0x070 (4 + stream.val * 256) 0).raise 1 0xFF stream.val)
      ∧ d.streamSecure stream = false ∧ d.hif.keyed.getLsbD stream.val = false
      ∧ (∀ k : Fin 9, k ≠ stream → d.streamSecure k = s.streamSecure k
          ∧ d.hif.keyed.getLsbD k.val = s.hif.keyed.getLsbD k.val)
      ∧ (if stream.val = 8 then d.hif.linkBroken = true else ∀ f ∈ fns, (d.fn f.val).port.ideBroken = true)
      ∧ (∀ f ∈ fns, (d.fn f.val).port.ideSecure = false) ∧ (∀ f ∈ l, ∀ q, d.qp f q = {})
      ∧ s.keysKept d ∧ d.log = s.log ∧ d.lc = s.lc)
    ∧ (∀ (stream : Fin 9) fns, s.up = false ∨ s.streamSecure stream = false → exec (.ideIntegrityFail stream fns) s = .next s)
    ∧ (∀ (fn : Fin 1024), s.reaches fn.val = true → s.hif.ideRequire = true →
        exec (.tlpWithoutIde fn true) s = .next { s with outbox := s.outbox ++ [.aer fn.val false] }
        ∧ exec (.tlpWithoutIde fn false) s = .next { s with outbox := s.outbox ++ [.aer fn.val false, .unsupported] })
    ∧ ∀ (fn : Fin 1024) (write : Bool), s.reaches fn.val = false ∨ s.hif.ideRequire = false →
        exec (.tlpWithoutIde fn write) s = .next s

/-- A DMA read that fails or times out (R20, R37, R50, R54, R168): it sets READ_FAIL, logs an Advisory Non-Fatal error and raises
HIF_DMA; one of a queue pair's descriptors also puts that queue pair into error state with cause 3, unless it is in error
already; one of a fragment list ends the item that is fetched with HOST_READ_FAIL; one of a running job's data stages that
end for secret work and gives it to public work at once; one of a mailbox leaves the marks alone. A queue pair's error (R50): the first cause is recorded and later ones change nothing; no other queue pair and nothing
else changes. -/
def Obligations.FailedReadsAreMarked : Prop :=
  (∀ (s : State) (fn : Fin 1024) (q cmd : Nat), s.up = true →
      (∀ c ∈ [Instr.dmaReadFail (.descriptor fn q), .completionTimeout (.descriptor fn q)],
        ((s.qp fn.val q).valid = true → (s.qp fn.val q).errCause = 0 →
          exec c s = .next ((((s.qpError fn.val q 3).fnEvent fn.val 3).emit (.aer fn.val true)).raise 3 (fn.val % 256) 0))
        ∧ ((s.qp fn.val q).valid = false ∨ (s.qp fn.val q).errCause ≠ 0 → exec c s = .next s))
      ∧ (∀ c ∈ [Instr.dmaReadFail (.fragList fn q), .completionTimeout (.fragList fn q)],
        (∀ f rest e l, (s.qp fn.val q).fetched = f :: rest → f.entries = e :: l →
          exec c s = .next (((((s.setQp fn.val q { s.qp fn.val q with fetched := rest }).refuse (s.newItem fn.val q e)
            .badDescriptor .hostReadFail 0).fnEvent fn.val 3).emit (.aer fn.val true)).raise 3 (fn.val % 256) 0))
        ∧ ((s.qp fn.val q).fetched = [] → exec c s = .next s))
      ∧ (∀ seq num it st, s.item? seq = some it → it.step? num = some st →
        ∀ c ∈ [Instr.dmaReadFail (.data seq num), .completionTimeout (.data seq num)],
        (st.phase = .running → st.stop = none → st.readsHost = true →
          let marks := fun (t : State) => (((t.beginScrub st.entry.cls st.unit true).fnEvent it.fn 3).emit (.aer it.fn true)).raise
            3 (it.fn % 256) 0
          let bad : JobResult := { status := .badDescriptor, reason := .hostReadFail }
          (st.secret = true → exec c s = .next (marks (s.setItem (it.setStep { st with phase := .staged, res := some bad }))))
          ∧ (st.secret = false → exec c s = .next (marks ((s.chargePublic it st).1.endStep it
              { (s.chargePublic it st).2 with res := some bad }))))
        ∧ (st.phase ≠ .running ∨ st.stop ≠ none ∨ st.readsHost = false → exec c s = .next s))
      ∧ (∀ seq num, (s.item? seq).bind (·.step? num) = none → exec (.dmaReadFail (.data seq num)) s = .next s)
      ∧ (∀ c ∈ [Instr.dmaReadFail (.mailbox fn cmd), .completionTimeout (.mailbox fn cmd)],
        exec c s = .next (((s.fnEvent fn.val 3).emit (.aer fn.val true)).raise 3 (fn.val % 256) 0))
      ∧ ∀ rd, exec (.completionTimeout rd) s = exec (.dmaReadFail rd) s)
  ∧ (∀ (s : State) (f q cause : Nat), q < 4096 → cause ≠ 0 →
      ((s.qp f q).errCause = 0 → ((s.qpError f q cause).qp f q) = { s.qp f q with errCause := cause })
      ∧ ((s.qp f q).errCause ≠ 0 → s.qpError f q cause = s)
      ∧ (∀ g p, (g, p) ≠ (f, q) → (s.qpError f q cause).qp g p = s.qp g p)
      ∧ s.qpError f q cause = { s with qm := (s.qpError f q cause).qm })


/-! ## SPDM, IDE_KM and DOE -/

/-- SPDM (R38, R40, R307, R444; message numbers and order of assumption 26): GET_VERSION starts a connection anew,
capabilities and algorithms follow in order, of which the responder selects the four of R40 that are offered and agrees with all four; an agreed connection gives digests, certificates of slots 0 and 1, a
challenge answer while the alias keys stand, and the six measurements; a request out of order is answered with ERROR and
changes nothing else. KEY_EXCHANGE opens the one secured session unless one is open, FINISH with a good MAC establishes
it, and KEY_UPDATE, HEARTBEAT and END_SESSION act on it alone. Over it on DOE, IDE_KM keys a stream, sets a keyed stream
going and stops one. DOE Discovery names three protocols (R20). -/
def Obligations.SpdmConnects : Prop :=
  (∀ (s : State) (t : Transport), s.spdmUp t = true →
      let a := s.heard t
      exec (.spdmGetVersion t) s = .next ({ a with spdm := { s.spdm with
        versioned := true, caps := false, algs := false, asym := false, hash := false, dhe := false, aead := false } }.spdmSay
          t 0x04 [0x13])
      ∧ (s.spdm.versioned = true →
        exec (.spdmGetCapabilities t) s = .next ({ a with spdm := { s.spdm with caps := true } }.spdmSay t 0x61 []))
      ∧ (s.spdm.versioned = false → exec (.spdmGetCapabilities t) s = .next (a.spdmErr t 0x04))
      ∧ (s.spdm.versioned = false ∨ s.spdm.caps = false → ∀ asym hash dhe aead,
        exec (.spdmNegotiateAlgorithms ⟨t, asym, hash, dhe, aead⟩) s = .next (a.spdmErr t 0x04))
      ∧ (s.spdm.versioned = true → s.spdm.caps = true →
        ∀ asym hash dhe aead, exec (.spdmNegotiateAlgorithms ⟨t, asym, hash, dhe, aead⟩) s = .next ({ a with spdm := { s.spdm with
          algs := asym && hash && dhe && aead, asym := asym, hash := hash, dhe := dhe, aead := aead } }.spdmSay t 0x63
            [BitVec.ofNat 64 (0x80 * flag asym), BitVec.ofNat 64 (0x2 * flag hash), BitVec.ofNat 64 (0x10 * flag dhe),
             BitVec.ofNat 64 (0x2 * flag aead)]))
      ∧ (s.spdm.algs = true →
        exec (.spdmGetDigests t) s = .next (a.spdmSay t 0x01 [0x3])
        ∧ (∀ k, k < 2 → exec (.spdmGetCertificate t k) s = .next (a.spdmSay t 0x02 [BitVec.ofNat 64 k])
          ∧ (s.vlt.aliasKeys = true → exec (.spdmChallenge t k) s = .next (a.spdmSay t 0x03 [BitVec.ofNat 64 k])))
        ∧ (∀ k, 2 ≤ k → exec (.spdmGetCertificate t k) s = .next (a.spdmErr t 0x01))
        ∧ (∀ k, 2 ≤ k ∨ s.vlt.aliasKeys = false → exec (.spdmChallenge t k) s = .next (a.spdmErr t 0x01))
        ∧ (∀ k, 6 < k → k ≠ 0xFF → exec (.spdmGetMeasurements t k) s = .next (a.spdmErr t 0x01))
        ∧ exec (.spdmGetMeasurements t 0) s = .next (a.spdmSay t 0x60 [6])
        ∧ (∀ k, 1 ≤ k → k ≤ 6 → exec (.spdmGetMeasurements t k) s = .next (a.spdmSay t 0x60 (s.measure k)))
        ∧ exec (.spdmGetMeasurements t 0xFF) s = .next (a.spdmSay t 0x60
            (s.measure 1 ++ s.measure 2 ++ s.measure 3 ++ s.measure 4 ++ s.measure 5 ++ s.measure 6)))
      ∧ (s.spdm.algs = false → ∀ k, ∀ c ∈ [Instr.spdmGetDigests t, .spdmGetCertificate t k, .spdmChallenge t k,
          .spdmGetMeasurements t k, .spdmKeyExchange t], exec c s = .next (a.spdmErr t 0x04))
      ∧ a = { s with sb := a.sb } ∧ ∀ code ws, a.spdmSay t code ws
          = { s with sb := (a.spdmSay t code ws).sb, outbox := s.outbox ++
              (if t = .mctp ∧ s.sb.ibiEn = true then [.ibi Config.ibiByte] else []) ++ [.spdm t code ws] })
  ∧ (∀ s : State,
      (∀ t : Transport, s.spdmUp t = true →
        (s.spdm.algs = true → s.spdm.session = none → exec (.spdmKeyExchange t) s = .next ({ s.heard t with
          spdm := { s.spdm with session := some t, finished := false, keyGen := 0 } }.spdmSay t 0x64 []))
        ∧ (s.spdm.algs = true → s.spdm.session ≠ none →
          exec (.spdmKeyExchange t) s = .next ((s.heard t).spdmErr t 0x0A))
        ∧ (s.spdm.session = some t → s.spdm.finished = false →
          exec (.spdmFinish t true) s = .next ({ s.heard t with spdm := { s.spdm with finished := true } }.spdmSay t 0x65 [])
          ∧ exec (.spdmFinish t false) s = .next ({ s.heard t with spdm := { s.spdm with session := none } }.spdmErr t 0x06))
        ∧ (s.spdm.session = some t → s.spdm.finished = true →
          exec (.spdmKeyUpdate t) s = .next ({ s.heard t with
            spdm := { s.spdm with keyGen := s.spdm.keyGen + 1 } }.spdmSay t 0x69 [])
          ∧ exec (.spdmHeartbeat t) s = .next ((s.heard t).spdmSay t 0x68 [])
          ∧ exec (.spdmEndSession t) s = .next ({ s.heard t with
            spdm := { s.spdm with session := none, finished := false, keyGen := 0 } }.spdmSay t 0x6C []))
        ∧ (s.spdm.session ≠ some t ∨ s.spdm.finished = true → ∀ ok,
          exec (.spdmFinish t ok) s = .next ((s.heard t).spdmErr t 0x04))
        ∧ (s.spdm.session ≠ some t ∨ s.spdm.finished = false → ∀ c ∈ [Instr.spdmKeyUpdate t, .spdmHeartbeat t, .spdmEndSession t],
          exec c s = .next ((s.heard t).spdmErr t 0x04)))
      ∧ (∀ (stream : Fin 9) (fns : List (Fin 1024)), s.spdmUp .doe = true → s.spdm.session = some .doe →
        s.spdm.finished = true →
        exec (.ideKmMessage .keyProg stream fns) s = .next { s with
          hif := { s.hif with keyed := s.hif.keyed ||| BitVec.ofNat 9 (2 ^ stream.val) }
          outbox := s.outbox ++ [.spdm .doe 0x103 []] }
        ∧ (s.hif.keyed.getLsbD stream.val = true →
          exec (.ideKmMessage .setGo stream fns) s = .next ((s.streamOn stream fns).spdmSay .doe 0x106 [])
          ∧ (s.streamOn stream fns).streamSecure stream = true
          ∧ (stream.val < 8 → ∀ f ∈ fns, ((s.streamOn stream fns).fn f.val).port.ideSecure = true))
        ∧ exec (.ideKmMessage .setStop stream fns) s = .next ((s.streamOff stream fns).spdmSay .doe 0x106 [])
        ∧ (s.streamOff stream fns).streamSecure stream = false
        ∧ (s.hif.keyed.getLsbD stream.val = false →
          exec (.ideKmMessage .setGo stream fns) s = .next (s.spdmErr .doe 0x01)))
      ∧ (∀ op (stream : Fin 9) (fns : List (Fin 1024)), s.spdmUp .doe = true → s.spdm.session ≠ some .doe ∨ s.spdm.finished = false →
        exec (.ideKmMessage op stream fns) s = .next (s.spdmErr .doe 0x04))
      ∧ (∀ t, s.spdmUp t = false → (t = .mctp → s.up = false ∨ s.pwr.state ≠ 4 ∨ s.sb.daValid = false) → ∀ w x y z k,
        ∀ c ∈ [Instr.spdmGetVersion t, .spdmGetCapabilities t, .spdmNegotiateAlgorithms ⟨t, w, x, y, z⟩, .spdmGetDigests t,
            .spdmGetCertificate t k, .spdmChallenge t k, .spdmGetMeasurements t k, .spdmKeyExchange t, .spdmFinish t w,
            .spdmKeyUpdate t, .spdmHeartbeat t, .spdmEndSession t], exec c s = .next s)
      ∧ (s.reaches 0 = false → ∀ index, exec (.doeDiscovery index) s = .next s)
      ∧ (s.spdmUp .doe = false → ∀ op stream fns, exec (.ideKmMessage op stream fns) s = .next s)
      ∧ ∀ index, s.reaches 0 = true → exec (.doeDiscovery index) s = .next { s with
          outbox := s.outbox ++ [.doe (if index < 3 then [1, index, (index + 1) % 3] else [0xFFFF, 0, 0])] })


/-! ## Doorbells and fetching -/

/-- Doorbells (R26, R28, R45, R46, R48 to R50, R70): a write that READY and an error-free queue pair let through moves the tail or
the head it names; one past the ring puts the queue pair into error with cause 1 or 2; any other is dropped and counted. A write of
8 bytes is its two words in turn, and one of another size or alignment sets BAD_ACCESS. A cancel looks at every item that it
matches: one whose end is fixed it leaves (assumption 57), one not yet dispatched it decides CANCELLED. A doorbell of one
function and queue pair leaves every other function and queue pair, and every other register group, as they were, whatever it
carries (R22, R28, R48). -/
def Obligations.DoorbellsMoveTheRings : Prop :=
  (∀ (s : State) (fn : Fin 1024) (q : Nat) (v : QWord), q < 4096 → s.reaches fn.val = true → (s.fn fn.val).port.mse = true →
      s.scrapped = false →
      let p := s.qp fn.val q
      let n := v.toNat % 65536
      let w : Word := v.setWidth 32
      let good := p.valid && (s.fn fn.val).port.ready && p.errCause == 0
      let back := ringDist p.cqHead n p.cqDepth ≤ ringDist p.cqHead p.cqTail p.cqDepth
      (good = true → n < p.sqDepth → exec (.sqDb fn q 4 v) s = .next (s.setQp fn.val q { p with sqTail := n }))
      ∧ (good = true → p.sqDepth ≤ n → exec (.sqDb fn q 4 v) s = .next (s.qpError fn.val q 1))
      ∧ (good = true → n < p.cqDepth → back → exec (.cqDb fn q 4 w) s = .next (s.setQp fn.val q { p with cqHead := n }))
      ∧ (good = true → p.cqDepth ≤ n ∨ ¬back → exec (.cqDb fn q 4 w) s = .next (s.qpError fn.val q 2))
      ∧ (good = false → exec (.sqDb fn q 4 v) s = .next (s.dropDb fn.val) ∧ exec (.cqDb fn q 4 w) s = .next (s.dropDb fn.val))
      ∧ (∀ t, exec (.sqDb fn q 4 v) s = .next t → exec (.sqDb fn q 8 v) s = exec (.cqDb fn q 4 (v.extractLsb' 32 32)) t)
      ∧ (p.valid = true → (s.fn fn.val).port.ready = true → exec (.cancel fn q 4 w) s = .next
          ((s.orc.items.filter (fun it => it.matches_ fn.val q w)).foldl (fun a it => a.cancelItem it .hostCancel) s))
      ∧ (p.valid = false ∨ (s.fn fn.val).port.ready = false → exec (.cancel fn q 4 w) s = .next (s.dropDb fn.val))
      ∧ (∀ t, exec (.cancel fn q 4 w) s = .next t →
          exec (.cancel fn q 8 w) s = .next (if p.valid then t else t.dropDb fn.val))
      ∧ exec (.cqDb fn q 8 w) s = .next (s.fnEvent fn.val 4)
      ∧ ∀ size, size ≠ 4 → size ≠ 8 → ∀ c ∈ [Instr.sqDb fn q size v, .cqDb fn q size w, .cancel fn q size w],
          exec c s = .next (s.fnEvent fn.val 4))
  ∧ (∀ (s : State) (fn : Fin 1024) (q size : Nat) (v : QWord) (w : Word),
      ∀ c ∈ [Instr.sqDb fn q size v, .cqDb fn q size w, .cancel fn q size w],
        (s.reaches fn.val = false → exec c s = .next s)
        ∧ (s.reaches fn.val = true → (s.fn fn.val).port.mse = false →
          exec c s = .next { s with outbox := s.outbox ++ [.unsupported] })
        ∧ (s.reaches fn.val = true → (s.fn fn.val).port.mse = true → s.scrapped = true → exec c s = .next s))
  ∧ (∀ (s : State) (it : Item) (why : Reason),
      (it.live = false ∨ it.cancelled = true ∨ (it.punnet && it.postBegun s.now) = true → s.cancelItem it why = s)
      ∧ (it.live = true → it.cancelled = false → (it.punnet && it.postBegun s.now) = false →
        (∀ x ∈ it.steps, x.first = none) → s.cancelItem it why =
          (s.trace it it.traceStep 0x0B 0 Verdict.blank it.traceUnit).setItem { it with
            cancelled := true, decided := some { st := .cancelled, why := why, at_ := s.now } }))
  ∧ (∀ (s t : State) (fn : Fin 1024) (q size : Nat) (v : QWord) (w : Word),
      (exec (.sqDb fn q size v) s = .next t ∨ exec (.cqDb fn q size w) s = .next t) →
      (∀ g, g ≠ fn.val → t.fn g = s.fn g) ∧ (∀ g p, (g, p) ≠ (fn.val, q) → t.qp g p = s.qp g p)
        ∧ (t.fn fn.val).mb = (s.fn fn.val).mb ∧ (t.fn fn.val).ten = (s.fn fn.val).ten
        ∧ (t.qp fn.val q).outstanding = (s.qp fn.val q).outstanding ∧ (t.qp fn.val q).fetched = (s.qp fn.val q).fetched
        ∧ t = { s with fns := t.fns, qm := t.qm, outbox := t.outbox })

/-- Fetching and acceptance (R24, R45, R47, R51 to R55, R57, R58, R75, R87, R111): a queue pair that may fetch reads and consumes one
entry for a single item and one more than its steps for a punnet, and holds a completion slot for it; a step entry without its
header is error cause 5, a punnet longer than the ring cause 6, and one whose step entries have not all come waits. A fragment
list's entries extend the walk of the oldest fetched item. The oldest fetched item that passes every check enters Orchard, is
counted in its tenant's backlog and keeps its place; one that fails is decided with its status in this tick, and one whose
lists are not yet read waits. -/
def Obligations.FetchAndAcceptance : Prop :=
  ∀ (s : State) (fn : Fin 1024) (q : Nat), q < 4096 →
    let p := s.qp fn.val q
    (∀ (bs : List Byte) (e : List QWord) (l : List (List QWord)), hostEntries bs = e :: l → p.valid = true → p.errCause = 0 →
      s.fetchHeld fn.val = false → s.up = true → p.waitingEntries ≠ 0 → p.slotFree = true →
      (kindOf e ≠ 1 → kindOf e ≠ 2 → exec (.fetchIssue fn q bs) s = .next (s.consume fn.val q [e]))
      ∧ (kindOf e = 1 → stepsOf e = 0 ∨ 16 < stepsOf e → exec (.fetchIssue fn q bs) s = .next (s.consume fn.val q [e]))
      ∧ (kindOf e = 1 → 1 ≤ stepsOf e → stepsOf e ≤ 16 → stepsOf e + 1 ≤ p.sqDepth - 1 →
        (stepsOf e + 1 ≤ p.waitingEntries → l.length = stepsOf e →
          exec (.fetchIssue fn q bs) s = .next (s.consume fn.val q (e :: l)))
        ∧ (p.waitingEntries < stepsOf e + 1 → exec (.fetchIssue fn q bs) s = .next s))
      ∧ (kindOf e = 2 → exec (.fetchIssue fn q bs) s = .next (s.qpError fn.val q 5))
      ∧ (kindOf e = 1 → 1 ≤ stepsOf e → stepsOf e ≤ 16 → p.sqDepth - 1 < stepsOf e + 1 →
        exec (.fetchIssue fn q bs) s = .next (s.qpError fn.val q 6)))
    ∧ (∀ bs, p.valid = false ∨ p.errCause ≠ 0 ∨ s.fetchHeld fn.val = true ∨ s.up = false ∨ p.waitingEntries = 0 ∨ p.slotFree = false
        ∨ hostEntries bs = [] → exec (.fetchIssue fn q bs) s = .next s)
    ∧ (p.fetched = [] → exec (.itemAccept fn q) s = .next s
      ∧ ∀ step output bs, exec (.fragmentListRead fn q step output bs) s = .next s)
    ∧ (∀ es : List (List QWord),
        (s.consume fn.val q es).qp fn.val q = { p with
          sqHead := (p.sqHead + es.length) % p.sqDepth, outstanding := p.outstanding + 1
          fetched := p.fetched ++ [{ entries := es }] }
        ∧ (s.consume fn.val q es).outbox = s.outbox ++ (List.range es.length).map (fun k =>
            Out.readReq fn.val (p.sqBase + BitVec.ofNat 64 (64 * ((p.sqHead + k) % p.sqDepth))) 64)
        ∧ (∀ g k, (g, k) ≠ (fn.val, q) → (s.consume fn.val q es).qp g k = s.qp g k)
        ∧ s.consume fn.val q es = { s with qm := (s.consume fn.val q es).qm, outbox := (s.consume fn.val q es).outbox })
    ∧ (∀ (f : Fetched) (rest : List Fetched) (d : Desc) (step : Nat) (output : Bool) (bs : List Byte) (lim : Nat),
      p.fetched = f :: rest → f.desc step = some d →
      let count := if output then d.outFrags else d.inFrags
      let addr := if output then d.outAddr else d.inAddr
      count ≠ 0 → listBad count addr = false → s.walkLimit fn.val f step output d = some lim →
      let w := (walkOf f.walks step output).getD
        { step := step, output := output, lists := 0, next := count, at_ := addr, sum := 0, segs := [], finished := false
          bad := none }
      w.finished = false → (fragEntries bs).length = w.next →
      exec (.fragmentListRead fn q step output bs) s = .next ((s.emit (.readReq fn.val w.at_ (16 * w.next))).setQp fn.val q { p with
        fetched := { f with walks := setWalk f.walks (walkList lim { w with lists := w.lists + 1 } (fragEntries bs)) } :: rest }))
    ∧ ∀ (f : Fetched) (rest : List Fetched) (e : List QWord) (l : List (List QWord)), p.fetched = f :: rest →
        f.entries = e :: l →
        let a := s.setQp fn.val q { p with fetched := rest }
        let it := s.newItem fn.val q e
        (∀ steps n, s.checkItem fn.val f = (.ok steps, n) → s.orchardBad fn.val it.deadline steps = none →
          ∃ t, exec (.itemAccept fn q) s = .next t ∧ t = a.enterItem it steps
            ∧ t.orc.items = s.orc.items ++ [{ it with steps := steps, counted := true, flowHead := !a.flowBusy it }]
            ∧ (t.fn fn.val).share.backlog = (s.fn fn.val).share.backlog + 1 ∧ t.orc.seq = s.orc.seq + 1
            ∧ (t.qp fn.val q).fetched = rest ∧ s.keysKept t ∧ t.log = s.log ∧ t.flt = s.flt)
        ∧ (∀ st why n, s.checkItem fn.val f = (.bad st why, n) →
          exec (.itemAccept fn q) s = .next (a.refuse it st why n)
          ∧ (a.refuse it st why n).orc.items = s.orc.items ++ [{ it with
              decided := some { st := st, why := why, step := n, at_ := s.now } }])
        ∧ (∀ n, s.checkItem fn.val f = (.wait, n) → exec (.itemAccept fn q) s = .next s)
        ∧ (∀ steps n, s.checkItem fn.val f = (.ok steps, n) →
          ∀ st why m, s.orchardBad fn.val it.deadline steps = some (st, why, m) →
          exec (.itemAccept fn q) s = .next (a.refuse it st why m))

/-! ## Placing, dispatch and the ends of jobs -/

/-- Placing and expiry (R76, R87 to R89, R119): a ready step is put into the list of the region that the rule picks, waits
for entropy, or meets no region; the first waiting item of a flow whose head left goes on; an item past its last dispatch
tick ends EXPIRED, and one that still waits for entropy after 50,000 ticks ends ENTROPY_UNAVAILABLE. -/
def Obligations.PlacingAndExpiry : Prop :=
  ∀ s : State,
    (∀ seq num it st, s.item? seq = some it → it.step? num = some st → s.up = true → st.phase = .held → it.ready st = true →
      (∀ z, s.entropyNeed it st = some z → ∃ t, exec (.itemPlace seq num) s = .next t
        ∧ t = (s.setItem (it.setStep { st with phase := .entropy z s.now })).trace it
            (some { st with phase := .entropy z s.now }) 0x04 (flag z) Verdict.blank none)
      ∧ (∀ r, s.entropyNeed it st = none → s.shortest st.entry.cls (s.candidates it) = some r →
        exec (.itemPlace seq num) s = .next (s.putPlaced it st r)
          ∧ r ∈ s.candidates it)
      ∧ (s.entropyNeed it st = none → s.shortest st.entry.cls (s.candidates it) = none →
        exec (.itemPlace seq num) s = .next (s.noRegion it st)))
    ∧ (∀ seq num, (s.item? seq).bind (·.step? num) = none → exec (.itemPlace seq num) s = .next s)
    ∧ (∀ seq num it st, s.item? seq = some it → it.step? num = some st → s.up = false ∨ st.phase ≠ .held ∨ it.ready st = false →
      exec (.itemPlace seq num) s = .next s)
    ∧ (∀ (fn : Fin 1024) (flow : Word),
      let passed := s.orc.flowsPassed.any (fun x => x.1 == fn.val && x.2.1 == flow && decide (x.2.2 < s.now))
      let left := s.orc.flowsPassed.filter (fun x => !(x.1 == fn.val && x.2.1 == flow))
      let first := s.orc.items.find? (fun x => x.counted && x.fn == fn.val && x.flow == flow)
      (∀ it, passed = true → first = some it → exec (.flowAdvance fn flow) s = .next { s with orc := { s.orc with
        flowsPassed := left
        items := s.orc.items.map (fun x => if x.seq = it.seq then { it with flowHead := true } else x) } })
      ∧ (passed = true → first = none →
        exec (.flowAdvance fn flow) s = .next { s with orc := { s.orc with flowsPassed := left } })
      ∧ (passed = false → exec (.flowAdvance fn flow) s = .next s))
    ∧ (let ends := fun (a : State) (it : Item) => match a.expired it with
        | none => a
        | some st => a.failItem it { st := .expired, why := if st.secret then .deadlineUnreachable else .deadlinePassed
                                     step := st.num, at_ := s.now - 1 }
      exec .deadlineExpire s = .next (s.orc.items.foldl ends s))
    ∧ (∀ it st, s.orc.items = [it] → s.expired it = some st → exec .deadlineExpire s = .next (s.failItem it
        { st := .expired, why := if st.secret then .deadlineUnreachable else .deadlinePassed, step := st.num,
          at_ := s.now - 1 }))
    ∧ ((∀ it ∈ s.orc.items, s.expired it = none) → exec .deadlineExpire s = .next s)
    ∧ (let waits := fun (it : Item) (x : Step) => it.serves x && (match x.phase with
        | .entropy _ t => decide (t + 50000 < s.now)
        | _ => false)
      let ends := fun (a : State) (it : Item) => match it.steps.find? (waits it) with
        | none => a
        | some st => a.failItem it { st := .entropyUnavailable, step := st.num, at_ := s.now - 1
                                     why := match st.phase with
                                       | .entropy true _ => .zest
                                       | _ => .central }
      exec .entropyWaitTimeout s = .next (s.orc.items.foldl ends s))
    ∧ (∀ it z since st, s.orc.items = [it] → it.steps = [st] → st.phase = .entropy z since → it.serves st = true →
        since + 50000 < s.now →
        exec .entropyWaitTimeout s = .next (s.failItem it
          { st := .entropyUnavailable, why := if z then .zest else .central, step := st.num, at_ := s.now - 1 }))
    ∧ ((∀ it ∈ s.orc.items, ∀ st ∈ it.steps, ∀ z since, st.phase = .entropy z since → s.now ≤ since + 50000) →
        exec .entropyWaitTimeout s = .next s)

/-- WAITWORK, DISPATCH and what frees a unit (R78 to R84, R88, R91, R104, R108, R144, R146, R192, R193, R305): an idle unit with no
work, no scrub and, for a Pip engine, no negative credit waits from this tick on; the step that the order of service picks goes
to the unit that has waited longest and is its job there, one that the tick budget cannot hold waits, one that may not go now is
passed by, and one whose key is gone ends. A pending stop is obeyed by a scrub with a fresh key, and the end of a scrub leaves
the unit without a job. -/
def Obligations.WorkMeetsUnits : Prop :=
  ∀ (s : State) (c : UnitClass),
    (∀ n, unitOk c n = true →
      (s.up = true → (s.cell c n).job = none → (s.cell c n).scrubbing = false → (s.cell c n).waiting = none →
        (c = .pip → 0 ≤ (s.cell c n).credit) →
        exec (.waitwork c n) s = .next (s.setCell c n { s.cell c n with waiting := some s.now }))
      ∧ (s.up = false ∨ (s.cell c n).job ≠ none ∨ (s.cell c n).scrubbing = true ∨ (s.cell c n).waiting ≠ none →
        exec (.waitwork c n) s = .next s))
    ∧ (∀ (r : Fin 4) p, s.up = true → s.pwr.state = 0 → s.pwr.exiting = false → (s.region r.val).inService = true →
      let l := s.readyList c r
      let rest := l.filter (fun x => !(x.1.seq == p.it.seq && x.2.num == p.st.num))
      s.pickOf c r l = some p →
      ((p.st.secret && s.halted) = true ∨ p.it.pastDeadline p.st s.now = true →
        exec (.dispatch c r) s = .next (s.tryDispatch c r l.length rest))
      ∧ ((p.st.secret && s.halted) = false → p.it.pastDeadline p.st s.now = false →
        (p.st.heldAt = some s.now → exec (.dispatch c r) s = .next s)
        ∧ (p.st.heldAt ≠ some s.now →
          (∀ st, s.attemptBad p.it p.st = some st → exec (.dispatch c r) s = .next
            ((s.failItem p.it { st := st, step := p.st.num, at_ := s.now }).tryDispatch c r l.length
              (rest.filter (fun x => x.1.seq != p.it.seq))))
          ∧ (s.attemptBad p.it p.st = none → s.useFits p.st = false ∨ s.pickUnit c r p.st = none →
            exec (.dispatch c r) s = .next (s.tryDispatch c r l.length rest))
          ∧ (∀ u, s.attemptBad p.it p.st = none → s.useFits p.st = true → s.pickUnit c r p.st = some u →
            (s.budgetBad p.it p.st r = none →
              let b := s.markShaped (s.passedOver c r p l)
              let it := (b.item? p.it.seq).getD p.it
              let t := (b.keepPick p).handOver { p with it := it } c r u
              exec (.dispatch c r) s = .next t ∧ (t.cell c u).job = some (it.seq, p.st.num) ∧ (t.cell c u).waiting = none
                ∧ t.log = s.log ∧ t.rnd = s.rnd ∧ t.mp = s.mp)
            ∧ (∀ due, s.budgetBad p.it p.st r = some due → exec (.dispatch c r) s = .next (s.budgetWait p due))))))
    ∧ (∀ r : Fin 4, s.up = false ∨ s.pwr.state ≠ 0 ∨ s.pwr.exiting = true ∨ (s.region r.val).inService = false
        ∨ s.pickOf c r (s.readyList c r) = none → exec (.dispatch c r) s = .next s)
    ∧ (∀ n, unitOk .pip n = true → s.up = true → (s.cell .pip n).job = none → (s.cell .pip n).scrubbing = false →
      (s.cell .pip n).waiting = none → (s.cell .pip n).credit < 0 →
      (-3200 ≤ (s.cell .pip n).credit →
        exec (.gfCreditRecovered n) s = .next (s.setCell .pip n { s.cell .pip n with credit := 0, waiting := some s.now }))
      ∧ ((s.cell .pip n).credit < -3200 → exec (.gfCreditRecovered n) s = .next s)
      ∧ exec (.waitwork .pip n) s = .next s)
    ∧ (∀ n, unitOk c n = true → s.stopPending c n = true → exec (.safePointStop c n) s = .next (s.beginScrub c n true))
    ∧ (∀ n, unitOk c n = true → s.stopPending c n = false → exec (.safePointStop c n) s = .next s)
    ∧ (∀ n stopped, s.beginScrub c n stopped = { s.setCell c n { s.cell c n with
        scrubbing := true, gf := 0, core := { (s.cell c n).core with scrubKey := some s.free }
        credit := if stopped then max (s.cell c n).credit 0 else (s.cell c n).credit - 5 * Int.ofNat (s.cell c n).gf } with
          free := s.free + 32 })
    ∧ ∀ n, unitOk c n = true →
        ((s.cell c n).scrubbing = true → ∃ t, exec (.scrubEnd c n) s = .next t
          ∧ (t.cell c n).job = none ∧ (t.cell c n).scrubbing = false ∧ (t.cell c n).dirty = 0 ∧ (t.cell c n).core = {}
          ∧ (s.scrubbedJob c n = s → t = s.setCell c n { s.cell c n with
              job := none, scrubbing := false, dirty := 0, gf := 0, core := {} }))
        ∧ ((s.cell c n).scrubbing = false → exec (.scrubEnd c n) s = .next s)

/-- A job ends (R66, R68, R85, R104, R141, R166 to R168, R172, R183, R206, R254): with an end that its opcode allows. A secret one is
staged, sends nothing and scrubs; a public one is charged and posts or goes on at once; a lane's service is one of these, or goes
on with its item; reads that come too late stage a secret job with HOST_READ_FAIL; a failed invariant takes the engine out of
service and raises its source. -/
def Obligations.JobsEnd : Prop :=
  (∀ (s : State) (c : UnitClass) (n : Nat) (res : JobResult), unitOk c n = true → s.runningJob c n = none →
    ∀ x ∈ [Instr.stageEnd c n res, .publicEnd c n res, .fragmentServiceEnd c n res, .fail c n, .hostReadAllowanceExpire c n,
        .laneReadAllowanceExpire c n], exec x s = .next s)
  ∧ ∀ (s : State) (c : UnitClass) (n : Nat) (it : Item) (st : Step), unitOk c n = true → s.runningJob c n = some (it, st) →
    (∀ res : JobResult, st.secret = true → st.isService = false → jobEnds (s.unseals it.seq st) st res = true →
      exec (.stageEnd c n res) s = .next (s.stageJob c n it st res)
      ∧ (st.overdue s.now = false →
        let r := checkNewKey it.fn st res
        s.stageJob c n it st res = ((s.sealOuts it.seq st r).setItem (it.setStep { st with
          phase := .staged, res := some r, sealBad := r.status == .deviceFault })).beginScrub c n false
        ∧ (s.stageJob c n it st res).outbox = s.outbox))
    ∧ (∀ res : JobResult, st.secret = false → st.isService = false → jobEnds (s.unseals it.seq st) st res = true →
      (res.status ≠ .deviceFault →
        exec (.publicEnd c n res) s = .next ((s.endPublic it st res).beginScrub c n false))
      ∧ (res.status = .deviceFault → exec (.publicEnd c n res) s = .next ((s.setItem (it.setStep { st with
          phase := .scrub, res := some res, stop := some .overrun })).unsealFail.beginScrub c n true)))
    ∧ (∀ res : JobResult, jobEnds (s.unseals it.seq st) st res = false →
      exec (.stageEnd c n res) s = .next s ∧ exec (.publicEnd c n res) s = .next s
      ∧ exec (.fragmentServiceEnd c n res) s = .next s)
    ∧ (∀ res : JobResult, st.isLane = true →
      serviceEnds (s.unseals it.seq st) st (!st.isService || st.lastSvc) res = true →
      exec (.fragmentServiceEnd c n res) s = .next (s.endService c n it st res)
      ∧ (st.secret = false → res.status ≠ .deviceFault → st.isService = true → st.lastSvc = false →
        let a := (s.sealContext it.seq st).chargePublic it st
        s.endService c n it st res = (a.1.continueItem it a.2).beginScrub c n false))
    ∧ (∀ res : JobResult, (st.secret = false ∨ st.isService = true → exec (.stageEnd c n res) s = .next s)
      ∧ (st.secret = true ∨ st.isService = true → exec (.publicEnd c n res) s = .next s)
      ∧ (st.isLane = false ∨ serviceEnds (s.unseals it.seq st) st (!st.isService || st.lastSvc) res = false →
        exec (.fragmentServiceEnd c n res) s = .next s))
    ∧ (st.isLane = true → exec (.fail c n) s = .next s)
    ∧ (st.isLane = false → exec (.fail c n) s = .next ((((s.failJob c n it st).takeUnits (srcInvar c n) c [n]).raise
        (srcInvar c n) n 0).unitGone c n))
    ∧ (∀ k ∈ [(Instr.hostReadAllowanceExpire c n, false), (.laneReadAllowanceExpire c n, true)], k.2 = c.isLane →
        st.secret = true → st.readsHost = true → (c.isLane || st.allowanceOver s.now) = true →
        exec k.1 s = .next (((s.setItem (it.setStep { st with
          phase := .staged, res := some { status := .badDescriptor, reason := .hostReadFail } })).fnEvent it.fn 3).beginScrub
            c n true))
    ∧ ∀ k ∈ [(Instr.hostReadAllowanceExpire c n, false), (.laneReadAllowanceExpire c n, true)],
        k.2 ≠ c.isLane ∨ st.secret = false ∨ st.readsHost = false ∨ (c.isLane || st.allowanceOver s.now) = false →
        exec k.1 s = .next s

/-- An uncorrected fault (R120, R144, R145, R147, R393) of a unit in service, or of one taken out that still works: the unit
counts it, scrubs, leaves service and raises its source; a safe point that does not come in time is such a fault. -/
def Obligations.UncorrectedFaultsTakeUnits : Prop :=
  ∀ (s : State) (c : UnitClass) (n : Nat), unitOk c n = true →
    (∀ kind (detail : BitVec 16), s.up = true → faultFits c kind = true →
      ((s.cell c n).inService = true ∨ (s.cell c n).job.isSome = true ∨ (s.cell c n).scrubbing = true →
        exec (.uncorrectedFault c n kind detail) s = .next (s.unitFault c n detail.toNat))
      ∧ ((s.cell c n).inService = false → (s.cell c n).job = none → (s.cell c n).scrubbing = false →
        exec (.uncorrectedFault c n kind detail) s = .next s)
      ∧ (s.jobOf c n = none → s.unitFault c n detail.toNat = ((((s.setCell c n { s.cell c n with
          uncorr := satSucc (s.cell c n).uncorr }).beginScrub c n true).takeUnits
            (srcUncorr c n) c [n]).raise (srcUncorr c n) n detail.toNat).unitGone c n)
      ∧ (∀ k : Cell, ((s.setCell c n { k with inService := true }).takeUnits (srcUncorr c n) c [n]).cell c n
          = { k with inService := false, outFault := true, waiting := none }))
    ∧ (∀ kind detail, faultFits c kind = false → exec (.uncorrectedFault c n kind detail) s = .next s)
    ∧ ((s.cell c n).job.isSome = true → (s.cell c n).scrubbing = false → c.isLane = false →
      exec (.safePointTimeout c n) s = .next (s.unitFault c n 0))
    ∧ ((s.cell c n).job = none ∨ (s.cell c n).scrubbing = true ∨ c.isLane = true →
      exec (.safePointTimeout c n) s = .next s)

/-- The tick boundary (R81, R94, R105, R109, R276, R405, R411, R430): one µs passes; with the main domain down that is all
but the operating second. With nothing in Orchard, the tick counts, and what was set for the boundary is in force: trace
control, legacy mask, share parameters with their accounts, and fault and power policies. -/
def Obligations.ChangesTakeEffectAtTheBoundary : Prop :=
  ∀ s : State,
    (s.up = false ∨ s.pwr.state = 4 → ∃ t, exec .tickBoundary s = .next t ∧ t = { s with
      rnd := { s.rnd with us := s.rnd.us + 1 }
      log := { s.log with opSec := if s.pwr.main && (s.rnd.us + 1 - s.log.upAt) % 1000000 == 0 then s.log.opSec + 1
                                   else s.log.opSec } })
    ∧ (s.up = true → s.pwr.state ≠ 4 → s.orc.items = [] → s.tablesWf → ∃ t, exec .tickBoundary s = .next t
      ∧ t.orc.tick = s.orc.tick + 1 ∧ t.rnd.us = s.rnd.us + 1
      ∧ t.orc.traceCtrl = s.orc.traceNext.getD s.orc.traceCtrl ∧ t.orc.traceNext = none
      ∧ t.eng.legacy = s.eng.legacyNext.getD s.eng.legacy ∧ t.eng.legacyNext = none
      ∧ (∀ f, (t.fn f).share = (s.fn f).share.tick) ∧ t.flt.policyNext = [] ∧ t.pwr.policyNext = []
      ∧ (∀ b r c, s.flt.policyNext = [[2, b, r, c]] → t.flt.graceBlk = b ∧ t.flt.graceReg = r ∧ t.flt.graceChip = c)
      ∧ t.orc.items = [] ∧ t.vlt = s.vlt ∧ t.lc = s.lc ∧ t.hif = s.hif ∧ t.mp = s.mp)

/-- Due ticks (R82, R84 to R86, R98, R120, R207): a staged single item posts in its due tick with the result it staged; one that
still runs is extended once if its opcode allows it, and else ends with ENGINE_FAULT and raises its overrun source. With nothing
due nothing changes, for transaction work and for bulk services. -/
def Obligations.DueTicksPost : Prop :=
  ∀ s : State,
    (s.dueList false = [] → ∀ bad, exec (.dueTick bad) s = .next s)
    ∧ (s.dueList true = [] → ∀ bad, exec (.fragmentDue bad) s = .next s)
    ∧ (∀ bad, exec (.dueTick bad) s
        = .next ((s.dueList false).foldl (fun a x => (a.dueOne bad x.2.1 x.2.2).postDecided) s)
      ∧ exec (.fragmentDue bad) s
        = .next ((s.dueList true).foldl (fun a x => (a.fragmentDueOne bad x.2.1 x.2.2).postDecided) s))
    ∧ ∀ it st d, s.orc.items = [it] → it.steps = [st] → it.punnet = false → it.decided = none → st.secret = true →
        st.due = some d → d ≤ s.now →
        (st.isService = false → st.phase = .staged →
          let a := s.resolveDue it st (st.res.getD {})
          exec (.dueTick []) s = .next ((a.1.endStep it { a.2 with stop := st.stop }).postDecided))
        ∧ (st.isService = false → st.phase = .running → st.entry.ext = true → st.extended = false →
          exec (.dueTick []) s = .next (s.extend it st))
        ∧ (st.isService = false → st.phase = .running → st.entry.ext = false ∨ st.extended = true →
          let a := s.resolveDue it st (faultRes .engineFault)
          exec (.dueTick []) s = .next (((a.1.endStep it { a.2 with stop := some .overrun }).overrun st).postDecided))
        ∧ (st.isService = true → st.phase = .staged →
          let a := s.resolveDue it st (st.res.getD {})
          exec (.fragmentDue []) s = .next
            ((a.1.serviceDue it { a.2 with stop := st.stop } (st.res.getD {})).postDecided))
        ∧ (st.isService = true → st.phase = .running →
          let a := s.resolveDue it st (faultRes .engineFault)
          exec (.fragmentDue []) s = .next
            (((a.1.serviceDue it { a.2 with stop := some .overrun } (faultRes .engineFault)).overrun st).postDecided))

/-- The posting ports, coalescing and OP_SEC (R114, R255, R256, R411): a lane group's port writes what its allowance lets
this tick take and keeps the rest; an unsignalled entry that is old enough asks for its message; OP_SEC is stored once 60 s
have passed. -/
def Obligations.PortsAndTimers : Prop :=
  ∀ s : State,
    (∀ (g : Fin 8) it st, s.orc.items = [it] → it.steps = [st] → st.phase = .port → st.entry.cls = groupClass g →
      st.region = groupRegion g → 0 < s.portTake g st → s.portTake g st < st.portLeft →
      ∀ a, st.portAt = some a → a ≤ s.now →
      ∃ t, exec (.portWriteTick g) s = .next t ∧ t.orc.items = [{ it with steps := [{ st with
          portLeft := st.portLeft - s.portTake g st, portAt := some (if st.secret then s.now + 1 else s.now) }] }]
        ∧ t.vlt = s.vlt ∧ t.qm = s.qm ∧ t.fns = s.fns ∧ t.log = s.log)
    ∧ (∀ g : Fin 8, (∀ it ∈ s.orc.items, ∀ st ∈ it.steps, st.phase ≠ .port) → exec (.portWriteTick g) s = .next s)
    ∧ (∀ g : Fin 8,
      let writes := fun (st : Step) => st.phase == .port && st.entry.cls == groupClass g && st.region == groupRegion g
      exec (.portWriteTick g) s = .next (s.orc.items.foldl (fun a it => (it.steps.filter writes).foldl
        (fun b st => b.portOne g it.seq st.num) a) s))
    ∧ (∀ (fn : Fin 1024) (q : Nat), q < 4096 →
      ((s.qp fn.val q).timeDue s.now = true → exec (.coalesceTimer fn q) s = .next { s with
        qm := { s.qm with qps := Tab.put {} s.qm.qps (4096 * fn.val + q) { s.qp fn.val q with unsig := 0 } }
        orc := { s.orc with msgs := if s.orc.msgs.contains (fn.val, (s.qp fn.val q).vector) then s.orc.msgs
                                    else s.orc.msgs ++ [(fn.val, (s.qp fn.val q).vector)] } })
      ∧ ((s.qp fn.val q).timeDue s.now = false → exec (.coalesceTimer fn q) s = .next s))
    ∧ (s.pwr.main = true → s.log.opStored + 60 ≤ s.log.opSec →
      exec .opSecStore s = .next { s with log := { s.log with opStored := s.log.opSec } })
    ∧ (s.pwr.main = false ∨ s.log.opSec < s.log.opStored + 60 → exec .opSecStore s = .next s)

/-- A completion entry (R37, R46, R50, R51, R63): with Bus Master Enable it goes to the tail of the completion ring as its 16 bytes,
the ring moves on, and the phase turns where the ring wraps; without it the entry is discarded and counted, and the queue pair
stands in error with cause 4. Other queue pairs stay. -/
def Obligations.CompletionsGoToTheTail : Prop :=
  ∀ (s : State) (it : Item) (v : Verdict), it.q < 4096 →
    let p := s.qp it.fn it.q
    ((s.fn it.fn).port.bme = true →
      let t := s.writeCompletion it v
      t.outbox = s.outbox ++ [.completion it.fn it.q (p.cqBase + BitVec.ofNat 64 (16 * p.cqTail)) (cplBytes it.tag
          (cplDw1 p.sqHead it.q) (cplDw2 (it.waitUs v s.now) v.why) (cplDw3 v.st it.flags v.step p.phase))]
        ∧ (t.qp it.fn it.q).cqTail = (if p.cqTail + 1 = p.cqDepth then 0 else p.cqTail + 1)
        ∧ (t.qp it.fn it.q).phase = (if p.cqTail + 1 = p.cqDepth then !p.phase else p.phase)
        ∧ (t.qp it.fn it.q).outstanding = p.outstanding - 1
        ∧ (∀ g q, (g, q) ≠ (it.fn, it.q) → t.qp g q = s.qp g q)
        ∧ t = { s with qm := t.qm, orc := { s.orc with msgs := t.orc.msgs }, outbox := t.outbox })
    ∧ ((s.fn it.fn).port.bme = false → p.errCause = 0 → ∃ a : State, s.writeCompletion it v = a.raise 6 (it.fn % 256) 0
        ∧ a.qm.cplLost = satSucc s.qm.cplLost ∧ (a.qp it.fn it.q).errCause = 4
        ∧ (a.qp it.fn it.q).cqTail = p.cqTail ∧ ((a.fn it.fn).port.events).getLsbD 2 = true
        ∧ ∀ g q, (g, q) ≠ (it.fn, it.q) → a.qp g q = s.qp g q)
    ∧ (∀ (tag a b c : Word) (k : Nat), k < 4 →
        leNum (((cplBytes tag a b c).drop (4 * k)).take 4) = ([tag, a, b, c].getD k 0).toNat)


/-! ## The mailbox -/

/-- What the mailbox refuses (R334, R337, R341, R344, R347, R367): a GO while BUSY is 1 only sets BAD_ACCESS; where SERVICE is
0 the hardware answers MP_RESTARTING, or nothing but the status to a VF in ALARMED mode; a command that is not served there
is ST_BAD_OPCODE. A request is checked for its FORMAT, its reserved bits, its COMMAND, its length, the life-cycle state and
the tenant's state in this order, and the first check that fails is answered. Requests for status (R111, R340, R419, R477): they answer with the registers, manifests, shares or ledger bytes that
they name, and change nothing but the mailbox they came through and the idle time. -/
def Obligations.MailboxChecksAndStatus : Prop :=
  (∀ s : State,
      (∀ (fn : Fin 1024) (cmd : BitVec 16) token, s.mbReaches fn.val = true → s.serves fn.val = false →
        ((s.fn fn.val).mb.busy = true → exec (.mailboxGoRefused fn cmd token) s = .next (s.fnEvent fn.val 4))
        ∧ ((s.fn fn.val).mb.busy = false → exec (.mailboxGoRefused fn cmd token) s = .next ((s.mbGo fn.val).mbRespond
            fn.val cmd.toNat token .stateRefused (if s.rnd.alarmed && fn.val != 0 then .none else .mpRestarting) 0 [])))
      ∧ (∀ (r : MbReq) (cmd : BitVec 16), s.mbReaches r.fn.val = true → s.serves r.fn.val = true →
        (s.fn r.fn.val).mb.busy = false → r.format = 1 → r.resv = false →
        (cmdOf cmd.toNat = none ∨ ∃ c, cmdOf cmd.toNat = some c ∧ s.cmdServed r.fn.val c = false) →
        exec (.mailboxUnknownCommand r cmd) s
          = .next ((s.mbGo r.fn.val).mbRespond r.fn.val cmd.toNat r.token .badOpcode .none 0 []))
      ∧ ∀ (code : Nat) (r : MbReq) (lens : List Nat) (masks : List QWord) (c : MbCmd), cmdOf code = some c →
          let t := s.mbGo r.fn.val
          (r.format ≠ 1 → t.mbCheck code r lens masks = some (.versionMismatch, .none))
          ∧ (r.format = 1 → r.resv = true ∨ resvSet masks r.words = true →
            t.mbCheck code r lens masks = some (.badDescriptor, .reservedSet))
          ∧ (r.format = 1 → r.resv = false → resvSet masks r.words = false →
            (t.cmdServed r.fn.val c = false → t.mbCheck code r lens masks = some (.badOpcode, .none))
            ∧ (t.cmdServed r.fn.val c = true →
              (r.len ∉ lens → t.mbCheck code r lens masks = some (.badLength, .field))
              ∧ (r.len ∈ lens → t.lcPermits c = false →
                t.mbCheck code r lens masks = some (.stateRefused, lcReason s.lcState))
              ∧ (r.len ∈ lens → t.lcPermits c = true → (s.fn r.fn.val).ten.st = .suspended → c.status = false →
                code ≠ 0x0102 → t.mbCheck code r lens masks = some (.stateRefused, .tenantSuspended))
              ∧ (r.len ∈ lens → t.lcPermits c = true → (s.fn r.fn.val).ten.st = .active →
                t.mbCheck code r lens masks = none))))
  ∧ (∀ (s : State) (r : MbReq),
      let t := s.mbGo r.fn.val
      (s.mbTakes 0x0001 r [0] [] → exec (.getStatus r) s = .next (t.mbRespond r.fn.val 0x0001 r.token .ok .none 0
          (wordBytes [regWord (t.fnStatus r.fn.val), regWord t.mpStatus, regWord t.vltStatus, regWord t.lcWord])))
      ∧ (s.mbTakes 0x0002 r [0] [] →
        exec (.getVersion r) s = .next (t.mbRespond r.fn.val 0x0002 r.token .ok .none 0 t.versionBytes)
        ∧ t.versionBytes.length = 544)
      ∧ (s.mbTakes 0x0207 r [8] [] → (r.w 0 ≤ 1023 → exec (.tenantGet r) s = .next (t.mbRespond r.fn.val 0x0207 r.token .ok
          .none 0 (wordBytes (((s.fn (r.w 0)).shareWords ++ [(s.fn (r.w 0)).share.shaped, (s.fn (r.w 0)).share.quota,
            (s.fn (r.w 0)).share.overload]).map regWord))))
        ∧ (1023 < r.w 0 → exec (.tenantGet r) s = .next (t.mbRespond r.fn.val 0x0207 r.token .badRange .none 0 [])))
      ∧ (s.mbTakes 0x0901 r [16] [] → logLimits (r.w 0) (r.w 1) = false →
        exec (.logRead r) s = .next (t.mbRespond r.fn.val 0x0901 r.token .badRange .none 0 []))
      ∧ (s.mbTakes 0x0901 r [16] [] → logLimits (r.w 0) (r.w 1) = true → ∃ a b c d,
        exec (.logRead r) s = .next (t.mbRespond r.fn.val 0x0901 r.token .ok .none 0
          (wordBytes [a, b, c, d] ++ (List.range (r.w 1)).map (fun k => Tab.get 0 s.log.mem (r.w 0 + k))))
        ∧ a = regWord s.log.gen ∧ b = regWord s.log.gen ∧ d = s.log.newestSeq.setWidth 64)
      ∧ ∀ c ∈ [Instr.getStatus r, .getVersion r, .tenantGet r, .logRead r], ∀ u, exec c s = .next u →
          u = { s with fns := u.fns, outbox := u.outbox, pwr := u.pwr } ∧ u.pwr = { s.pwr with idleSince := u.pwr.idleSince }
          ∧ ∀ g, g ≠ r.fn.val → u.fn g = s.fn g)

/-- Queue pairs and PULP_FLUSH (R43, R44, R113, R115, R214): QP_CREATE makes an empty queue pair with what it names and the
lowest free device-wide number, QP_DELETE removes one with nothing outstanding, QP_INTERRUPT leaves its change for the
boundary, and PULP_FLUSH advances the epoch and takes the tenant's on-chip entries. Parameters that do not hold are out of
range, and a queue pair with work outstanding is busy. Other queue pairs stay. -/
def Obligations.QueuePairsAreMadeAndDeleted : Prop :=
  ∀ (s : State) (r : MbReq),
    let fn := r.fn.val
    let t := s.mbGo fn
    (s.mbTakes 0x0101 r [64] [] → t.qpFits fn r = false →
      exec (.qpCreate r) s = .next (t.answer 0x0101 r (.bad .badRange .none)))
    ∧ (s.mbTakes 0x0101 r [64] [] → t.qpFits fn r = true → r.w 0 < 4096 →
      let p : Qp := newQp r t.freeQpNum
      exec (.qpCreate r) s = .next (((t.setQp fn (r.w 0) p).noteTol).answer 0x0101 r (.words [BitVec.ofNat 64 t.freeQpNum]))
      ∧ (∀ e ∈ s.qm.qps, e.2.num ≠ t.freeQpNum) ∧ ((t.setQp fn (r.w 0) p).noteTol.qp fn (r.w 0)) = p
      ∧ (∀ g q, (g, q) ≠ (fn, r.w 0) → ((t.setQp fn (r.w 0) p).noteTol.qp g q) = s.qp g q))
    ∧ (s.mbTakes 0x0102 r [8] [] → t.holdsIdx fn (r.w 0) = true →
      ((t.qp fn (r.w 0)).outstanding = 0 →
        exec (.qpDelete r) s = .next (((t.setQp fn (r.w 0) {}).noteTol).answer 0x0102 r .done)
        ∧ (t.setQp fn (r.w 0) {}).noteTol.qp fn (r.w 0) = {})
      ∧ ((t.qp fn (r.w 0)).outstanding ≠ 0 → exec (.qpDelete r) s = .next (t.answer 0x0102 r (.bad .stateRefused .qpBusy))))
    ∧ (s.mbTakes 0x0102 r [8] [] → t.holdsIdx fn (r.w 0) = false →
      exec (.qpDelete r) s = .next (t.answer 0x0102 r (.bad .badRange .none)))
    ∧ (s.mbTakes 0x0103 r [32] [] → t.holdsIdx fn (r.w 0) = true → r.w 1 < (t.fn fn).ten.msix →
      coalOk (r.w 2) (r.w 3) = true → exec (.qpInterrupt r) s = .next ((t.setQp fn (r.w 0) { t.qp fn (r.w 0) with
        nextInt := some (r.w 1, r.w 2, r.w 3) }).answer 0x0103 r .done))
    ∧ (s.mbTakes 0x0103 r [32] [] → t.holdsIdx fn (r.w 0) = false ∨ (t.fn fn).ten.msix ≤ r.w 1 ∨ coalOk (r.w 2) (r.w 3) = false →
      exec (.qpInterrupt r) s = .next (t.answer 0x0103 r (.bad .badRange .none)))
    ∧ (s.mbTakes 0x0104 r [0] [] → exec (.pulpFlush r) s = .next (((t.setPulp { t.pulp with
        entries := t.pulp.entries.filter (fun e => !inPart fn true e) }).setPulpPart fn { (t.fn fn).pulp with
          epoch := (t.fn fn).pulp.epoch + 1 }).answer 0x0104 r .done))

/-- Tenants (R34, R35, R99 to R103, R105, R109, R291): a tenant is created active with its allotments, its accounts at
their caps and, in an unsealed vault while the DRBG serves (assumption 43), an import key; it is suspended and resumed; a suspended one without queue pairs is
deleted with its keys, blobs and Pulp entries, and keeps its MSI-X vectors; share parameters wait for the boundary, and
allotments that fit come into force. -/
def Obligations.TenantsComeAndGo : Prop :=
  ∀ (s : State) (r : MbReq),
    let t := s.mbGo r.fn.val
    let n := r.w 0
    (s.mbTakes 0x0201 r [56, 96] [] → 1 ≤ n → n ≤ 1023 → (t.fn n).ten.st = .notCreated →
      let c := if r.len = 96 then r.share 7 else ShareCfg.fresh
      let x := r.allots (t.fn n).ten 1
      c.ok = true → t.allotBad n x = none → t.heapFits (kemDk 2) = true →
      exec (.tenantCreate r) s = .next ((t.createTenant n x c).answer 0x0201 r .done)
      ∧ ((t.createTenant n x c).fn n).ten = { x with st := .active, mirrored := false }
      ∧ ((t.createTenant n x c).fn n).share.cfg = c ∧ ((t.createTenant n x c).fn n).share.backlog = 0
      ∧ (t.vlt.unsealed = true → t.drbgLive = true → t.rng.rawEn = false → ((t.createTenant n x c).slot n 0).occ = true)
      ∧ ∀ g, g ≠ n → ((t.createTenant n x c).fn g).ten = (t.fn g).ten)
    ∧ (s.mbTakes 0x0201 r [56, 96] [] → n = 0 ∨ 1023 < n →
      exec (.tenantCreate r) s = .next (t.answer 0x0201 r (.bad .badRange .none)))
    ∧ (s.mbTakes 0x0201 r [56, 96] [] → 1 ≤ n → n ≤ 1023 → (t.fn n).ten.st ≠ .notCreated →
      exec (.tenantCreate r) s = .next (t.answer 0x0201 r (.detail 0x06)))
    ∧ (s.mbTakes 0x0202 r [8] [] → 1 ≤ n → n ≤ 1023 → (t.fn n).ten.st ≠ .notCreated →
      exec (.tenantSuspend r) s = .next (((t.setTen n { (t.fn n).ten with st := .suspended }).refreshFn n).answer 0x0202 r .done)
      ∧ (((t.setTen n { (t.fn n).ten with st := .suspended }).refreshFn n).fn n).port.ready = false)
    ∧ (s.mbTakes 0x0203 r [8] [] → n ≤ 1023 → (t.fn n).ten.st ≠ .notCreated →
      exec (.tenantResume r) s = .next (((t.setTen n { (t.fn n).ten with st := .active }).refreshFn n).answer 0x0203 r .done))
    ∧ (s.mbTakes 0x0204 r [8] [] → 1 ≤ n → n ≤ 1023 → (t.fn n).ten.st = .suspended → t.holdsQp n = false →
      exec (.tenantDelete r) s = .next ((t.deleteTenant n).answer 0x0204 r .done)
      ∧ ((t.deleteTenant n).fn n).ten = { msix := (t.fn n).ten.msix }
      ∧ (∀ k, (t.deleteTenant n).slot n k = {} ∧ (t.deleteTenant n).blob n k = {})
      ∧ (∀ g k, g ≠ n → (t.deleteTenant n).slot g k = t.slot g k)
      ∧ ∀ e ∈ (t.deleteTenant n).pulp.entries, e.owner ≠ n)
    ∧ (s.mbTakes 0x0204 r [8] [] → 1 ≤ n → n ≤ 1023 → (t.fn n).ten.st ≠ .notCreated →
      (t.fn n).ten.st = .active ∨ t.holdsQp n = true →
      exec (.tenantDelete r) s = .next (t.answer 0x0204 r (.bad .stateRefused .qpBusy)))
    ∧ (n ≤ 1023 → (t.fn n).ten.st = .notCreated → ∀ e ∈ [(Instr.tenantSuspend r, 0x0202, 8), (.tenantResume r, 0x0203, 8),
        (.tenantDelete r, 0x0204, 8), (.tenantSetShare r, 0x0205, 48), (.tenantSetAllot r, 0x0206, 56)],
      n ≠ 0 → s.mbTakes e.2.1 r [e.2.2] [] →
      exec e.1 s = .next (t.answer e.2.1 r (.bad .stateRefused .tenantNotCreated)))
    ∧ (s.mbTakes 0x0205 r [48] [] → n ≤ 1023 → (t.fn n).ten.st ≠ .notCreated → (r.share 1).ok = true →
      exec (.tenantSetShare r) s = .next ((t.setShare n { (t.fn n).share with next := some (r.share 1) }).answer 0x0205 r .done))
    ∧ (s.mbTakes 0x0206 r [56] [] → n ≤ 1023 → (t.fn n).ten.st ≠ .notCreated → ∀ e,
      t.allotBad n (r.allots (t.fn n).ten 1) = some e → exec (.tenantSetAllot r) s = .next (t.answer 0x0206 r e))
    ∧ (s.mbTakes 0x0206 r [56] [] → n ≤ 1023 → (t.fn n).ten.st ≠ .notCreated →
      t.allotBad n (r.allots (t.fn n).ten 1) = none →
      exec (.tenantSetAllot r) s = .next ((t.setAllot n (r.allots (t.fn n).ten 1)).answer 0x0206 r .done)
      ∧ ((t.setAllot n (r.allots (t.fn n).ten 1)).fn n).ten = r.allots (t.fn n).ten 1)

/-- The Pulp tier and the shared pool (R200, R209, R210, R213, R214, R216): PULP_SIZE sets the tier and both reserves where quotas
and published keys still fit. PULP_PUBLISH puts a shared public key of tenant 0 into a reserve with room and builds its entry;
PULP_WITHDRAW takes it out, advances the pool's epoch, which makes every other HBM entry of the pool a miss, and ends the items of
this tick that wait with it. An entry that is lost or stale is made whole by an idle engine's background rebuild, charged to tenant
0. A key that is not shared or not public is not published, and one too large for the reserve is refused. -/
def Obligations.PulpIsSizedAndShared : Prop :=
  ∀ (s : State) (r : MbReq),
    let t := s.mbGo r.fn.val
    let h := r.words.getD 0 0
    let ranged := r.w 0 ≤ 32 ∧ r.w 1 ≤ 4096 ∧ r.w 1 % 64 = 0 ∧ r.w 2 ≤ 4096 ∧ r.w 2 % 64 = 0
    let u := t.setPulp { t.pulp with tier := r.w 0, resOn := r.w 1 / 64, resHbm := r.w 2 / 64 }
    let sumsFit := r.w 1 + t.sumTen (·.pulpOn) ≤ 16384 ∧ r.w 2 + t.sumTen (·.pulpHbm) ≤ u.tierMib
    let keysFit := t.sharedKib true ≤ r.w 1 ∧ t.sharedKib false ≤ 1024 * r.w 2
    (s.mbTakes 0x0301 r [24] [] →
      (ranged → sumsFit → keysFit → exec (.pulpSize r) s = .next (u.answer 0x0301 r .done))
      ∧ (¬ranged → exec (.pulpSize r) s = .next (t.answer 0x0301 r (.bad .badRange .none)))
      ∧ (ranged → ¬sumsFit → exec (.pulpSize r) s = .next (t.answer 0x0301 r (.detail 0x05)))
      ∧ (ranged → sumsFit → ¬keysFit → exec (.pulpSize r) s = .next (t.answer 0x0301 r (.detail 0x06))))
    ∧ (s.mbTakes 0x0302 r [16] [] → r.w 1 ≤ 1 → ∀ a len, t.findKey 0 h true false none = .attr a len →
      let onChip := r.w 1 == 0
      let room := if onChip then 64 * t.pulp.resOn else 65536 * t.pulp.resHbm
      let x : Shared := { handle := h, kib := attrKib a, onChip := onChip, entry := none }
      let v := t.setPulp { t.pulp with shared := t.pulp.shared ++ [(t.sharedBuild x a 0).2] }
      (aShared a = true → publicTypes.contains (aType a) = true → t.isShared h = false → (onChip && aType a == 0x29) = false →
        t.sharedKib onChip + attrKib a ≤ room → exec (.pulpPublish r) s = .next (v.answer 0x0302 r .done)
        ∧ ∃ y, v.pulp.shared = t.pulp.shared ++ [y] ∧ y.handle = h ∧ y.kib = attrKib a ∧ y.onChip = onChip
            ∧ (onChip = false → ∃ e, y.entry = some e ∧ e.epoch = t.pulp.sharedEpoch ∧ e.scheme = attrScheme a))
      ∧ ((aShared a && publicTypes.contains (aType a)) = false →
        exec (.pulpPublish r) s = .next (t.answer 0x0302 r (.bad .keyUsage .none)))
      ∧ (aShared a = true → publicTypes.contains (aType a) = true → t.isShared h = false → (onChip && aType a == 0x29) = false →
        room < t.sharedKib onChip + attrKib a → exec (.pulpPublish r) s = .next (t.answer 0x0302 r (.detail 0x05))))
    ∧ (s.mbTakes 0x0303 r [8] [] →
      (t.pulp.shared.any (fun x => x.handle == h) = true →
        exec (.pulpWithdraw r) s = .next (((t.sharedLost h true).withdrawNow h).answer 0x0303 r .done)
        ∧ (t.sharedLost h true).pulp.sharedEpoch = t.pulp.sharedEpoch + 1
        ∧ (t.sharedLost h true).pulp.shared = t.pulp.shared.filter (fun x => x.handle != h))
      ∧ (t.pulp.shared.any (fun x => x.handle == h) = false →
        exec (.pulpWithdraw r) s = .next (t.answer 0x0303 r (.bad .keyAbsent .none))))
    ∧ ∀ (slot : Nat) (region : Fin 4) (ticks : Nat) x, s.pulp.shared[slot]? = some x →
        let free := s.up && s.pwr.state == 0 && s.mp.running && s.vlt.unsealed && s.isShared x.handle && s.sharedStale x region
          && s.idlePip region
        let b := s.sharedBuild x (s.sharedAttr x.handle) region
        (free = true → exec (.sharedPoolRebuild ⟨slot, region, ticks⟩) s = .next
          ((b.1.setPulp { b.1.pulp with shared := b.1.pulp.shared.set slot b.2 }).setShare 0
            ((b.1.fn 0).share.credit (-(Int.ofNat (max 1 ticks))))))
        ∧ (free = false → exec (.sharedPoolRebuild ⟨slot, region, ticks⟩) s = .next s)

/-! ## Keys -/

/-- Keys go in (R24, R291, R296, R298 to R302, R305, R392, R453): the bytes named are read as the function; a message that passes
every check of R299 is committed and mirrored, and charged for its verifications and its decapsulation, and one already applied is answered with FLAGS.APPLIED alone; a public key or an
authority key that fits is committed to a slot that was empty; a good host-held blob goes into the key store. A message or an
VLT_COMMIT. -/
def Obligations.KeysGoIn : Prop :=
  ∀ (s : State) (r : MbReq),
    let fn := r.fn.val
    let g := s.mbGo fn
    (∀ m, s.mbTakes 0x0401 r [16] [] → m.slot < 8192 →
      let y := g.dmaIn r 0
      let x := y.chargeUpdate fn m
      (y.readable fn m.readOk = false → exec (.keyUpdate r m) s = .next ((y.reject .ok .none).1.answer 0x0401 r .readFail))
      ∧ (x.fn fn).share = (g.fn fn).share.credit (-(Int.ofNat (y.updateCharge fn m)))
      ∧ (y.readable fn m.readOk = true →
        (x.updateBad fn m = none → x.isApplied fn m = false → x.updateLate fn m = none → x.commits = true →
          ((m.commitOk && x.updateFits fn m) = true →
            exec (.keyUpdate r m) s = .next (((x.applyUpdate fn m).mirrorRound r 0x0401 fn m.slot 0).1.answer 0x0401 r
              ((x.applyUpdate fn m).mirrorRound r 0x0401 fn m.slot 0).2)
            ∧ ((x.applyUpdate fn m).slot fn m.slot).counter = m.counter
            ∧ ((x.applyUpdate fn m).slot fn m.slot).occ = (m.action != 3)
            ∧ ∀ a k, (a, k) ≠ (fn, m.slot) → a < 1024 → (x.applyUpdate fn m).slot a k = s.slot a k)
          ∧ ((m.commitOk && x.updateFits fn m) = false →
            exec (.keyUpdate r m) s = .next ((x.commitFail true).1.answer 0x0401 r (x.commitFail true).2)))
        ∧ (x.updateBad fn m = none → x.isApplied fn m = true →
          exec (.keyUpdate r m) s = .next ((x.mirrorRound r 0x0401 fn m.slot 8).1.answer 0x0401 r
            (x.mirrorRound r 0x0401 fn m.slot 8).2)
          ∧ (x.mirrors fn = false → x.mirrorRound r 0x0401 fn m.slot 8 = (x, .ok 8 [])))
        ∧ (∀ st, x.updateBad fn m = some st ∨ (x.updateBad fn m = none ∧ x.isApplied fn m = false ∧ x.updateLate fn m = some st) →
          exec (.keyUpdate r m) s = .next ((x.setVlt { x.vlt with
            reject := satSucc x.vlt.reject }).answer 0x0401 r (.bad st .none)))))
    ∧ (∀ keyOk readOk commitOk, s.mbTakes 0x0402 r [32] [] →
      let x := g.dmaIn r 2
      let n := r.w 0
      let a := stampSecret (r.words.getD 1 0)
      let fits := 2 < n ∧ n < (x.fn fn).ten.slots ∧ (x.slot fn n).taken = false ∧ aType a ≠ 0x29
      let good := publicTypes.contains (aType a) = true ∧ attrOk fn n a = true ∧ aCounted a = false ∧ keyOk = true
      let y := x.importPublic fn n a (r.w 3)
      (x.readable fn readOk = false →
        exec (.keyImportPublic r keyOk ⟨readOk, commitOk⟩) s = .next ((x.reject .ok .none).1.answer 0x0402 r .readFail))
      ∧ (x.readable fn readOk = true →
        (fits → good → x.commits = true → (commitOk && x.heapFits (r.w 3)) = true → n < 8192 →
          exec (.keyImportPublic r keyOk ⟨readOk, commitOk⟩) s = .next ((y.mirrorRound r 0x0402 fn n 0).1.answer 0x0402 r
            (y.mirrorRound r 0x0402 fn n 0).2)
          ∧ (y.slot fn n).occ = true ∧ (y.slot fn n).attr = a ∧ (y.slot fn n).counter = (x.slot fn n).counter + 1)
        ∧ (¬fits → exec (.keyImportPublic r keyOk ⟨readOk, commitOk⟩) s
            = .next ((x.reject .keyUsage .none).1.answer 0x0402 r (.bad .keyUsage .none)))
        ∧ (fits → ¬good → exec (.keyImportPublic r keyOk ⟨readOk, commitOk⟩) s
            = .next ((x.reject .badRange .none).1.answer 0x0402 r (.bad .badRange .none)))))
    ∧ (∀ keyOk readOk commitOk, s.mbTakes 0x0408 r [32] [] → r.w 0 ≤ 1023 → r.w 1 = 1 ∨ r.w 1 = 2 →
      (g.fn (r.w 0)).ten.st ≠ .notCreated →
      let x := g.dmaIn r 2
      let y := x.importPublic (r.w 0) (r.w 1) (authorityAttr (r.w 1)) (r.w 3)
      (x.readable 0 readOk = false →
        exec (.authoritySet r keyOk ⟨readOk, commitOk⟩) s = .next (x.answer 0x0408 r .readFail))
      ∧ (x.readable 0 readOk = true →
        ((x.slot (r.w 0) (r.w 1)).taken = true →
          exec (.authoritySet r keyOk ⟨readOk, commitOk⟩) s = .next (x.answer 0x0408 r (.bad .keyUsage .none)))
        ∧ ((x.slot (r.w 0) (r.w 1)).taken = false → r.w 3 = authorityLen (r.w 1) → keyOk = true → x.commits = true →
          (commitOk && x.heapFits (r.w 3)) = true →
          exec (.authoritySet r keyOk ⟨readOk, commitOk⟩) s = .next ((y.mirrorRound r 0x0408 (r.w 0) (r.w 1) 0).1.answer 0x0408 r
            (y.mirrorRound r 0x0408 (r.w 0) (r.w 1) 0).2)
          ∧ (y.slot (r.w 0) (r.w 1)).occ = true ∧ (y.slot (r.w 0) (r.w 1)).attr = authorityAttr (r.w 1))))
    ∧ ∀ b, s.mbTakes 0x0405 r [24] [] →
        let h := r.words.getD 2 0
        let x := g.dmaIn r 0
        (g.destBad fn h 1 b.keyLen = none →
          (x.readable fn b.readOk = true → r.w 1 = blobBytes b.keyLen →
            (x.blobBad fn b = none → x.commits = true → x.vlt.ksKey = true →
              exec (.keystoreLoad r b) s = .next ((x.putBlob fn (hIndex h) b.attr 0 b.keyLen).answer 0x0405 r .done))
            ∧ (∀ st, x.blobBad fn b = some st → exec (.keystoreLoad r b) s = .next (x.answer 0x0405 r (.bad st .none))))
          ∧ (x.readable fn b.readOk = false → exec (.keystoreLoad r b) s = .next (x.answer 0x0405 r .readFail)))
        ∧ ∀ st why, g.destBad fn h 1 b.keyLen = some (st, why) →
          exec (.keystoreLoad r b) s = .next (g.answer 0x0405 r (.bad st why))

/-- Keys and statements go out (R297, R307, R308, R477): KEY_INFO reads a slot's or a blob's words, and of slot 0 the import key's
public part too; KEY_EXPORT wraps an exportable key into a blob at the host's address; KEY_STATEMENT gives 4,851 bytes signed with
the alias key, of its own keys or, to the PF, of any tenant's; CERT_READ gives the bytes of a certificate. None changes a slot;
another tenant's key is not exported, nor one whose attributes do not allow it. -/
def Obligations.KeysAreReadOut : Prop :=
  ∀ (s : State) (r : MbReq),
    let fn := r.fn.val
    let x := s.mbGo fn
    let h := r.words.getD 0 0
    let k := x.slot fn (hIndex h)
    let b := x.blob fn (hIndex h)
    (s.mbTakes 0x0403 r [8] [] →
      (hTenant h ≠ fn → exec (.keyInfo r) s = .next (x.answer 0x0403 r (.bad .keyTenant .none)))
      ∧ (hTenant h = fn →
        (hLoc h = 0 → hIndex h < (x.fn fn).ten.slots → hIndex h ≠ 0 ∨ k.occ = false →
          exec (.keyInfo r) s = .next (x.answer 0x0403 r (.words (infoWords k.occ k.attr k.counter k.uses k.limit))))
        ∧ (hLoc h = 0 → hIndex h = 0 → 0 < (x.fn fn).ten.slots → k.occ = true → 
          exec (.keyInfo r) s = .next (x.answer 0x0403 r
            (.ok 0 (wordBytes (infoWords true k.attr k.counter k.uses k.limit) ++ freeBytes k.keyAt 1568))))
        ∧ (hLoc h = 1 → hIndex h < 1048576 →
          exec (.keyInfo r) s = .next (x.answer 0x0403 r (.words (infoWords b.occ b.attr b.version 0 0))))
        ∧ ((hLoc h = 0 ∧ (x.fn fn).ten.slots ≤ hIndex h) ∨ 2 ≤ hLoc h →
          exec (.keyInfo r) s = .next (x.answer 0x0403 r (.bad .badRange .none)))))
    ∧ (s.mbTakes 0x0404 r [32] [] →
      (hTenant h ≠ fn → exec (.keyExport r) s = .next (x.answer 0x0404 r (.bad .keyTenant .none)))
      ∧ (hTenant h = fn → x.heldKey h = none → exec (.keyExport r) s = .next (x.answer 0x0404 r (.bad .keyAbsent .none)))
      ∧ (hTenant h = fn → ∀ a p n c, x.heldKey h = some (a, p, n, c) →
        (aExportable a = false → exec (.keyExport r) s = .next (x.answer 0x0404 r (.bad .keyUsage .none)))
        ∧ (aExportable a = true → x.wrapBad fn (r.words.getD 1 0) = none → r.w 2 % 64 = 0 →
          (blobBytes n ≤ r.w 3 → x.commits = true →
            exec (.keyExport r) s = .next ((x.dmaOut fn (r.words.getD 2 0)
              (blobOf fn (hIndex (r.words.getD 1 0)) n a (x.slot fn (hIndex (r.words.getD 1 0))).secAt (x.keyPlace h a))).answer
                0x0404 r (.words [BitVec.ofNat 64 (blobBytes n)])))
          ∧ (r.w 3 < blobBytes n → exec (.keyExport r) s = .next (x.answer 0x0404 r (.bad .badLength .outShort))))
        ∧ (aExportable a = true → ∀ st why, x.wrapBad fn (r.words.getD 1 0) = some (st, why) →
          exec (.keyExport r) s = .next (x.answer 0x0404 r (.bad st why)))))
    ∧ (s.mbTakes 0x0406 r [40] [] →
      (hTenant h ≠ fn → fn ≠ 0 → exec (.keyStatement r) s = .next (x.answer 0x0406 r (.bad .keyTenant .none)))
      ∧ (hTenant h = fn ∨ fn = 0 → ∀ a p n c, x.heldKey h = some (a, p, n, c) →
        (4851 ≤ r.w 4 → x.vlt.aliasKeys = true → x.commits = true → ∃ bs : List Byte, bs.length = 4851 ∧
          exec (.keyStatement r) s = .next (((x.dmaOut fn (r.words.getD 3 0) bs).draw 4723).answer 0x0406 r (.words [4851]))
          ∧ bs.take 24 = leBytes 1 1 ++ leBytes 1 s.lcState ++ leBytes 2 (hTenant h) ++ leBytes 8 h.toNat ++ leBytes 8 a.toNat
              ++ leBytes 4 c.toNat)
        ∧ (r.w 4 < 4851 → exec (.keyStatement r) s = .next (x.answer 0x0406 r (.bad .badLength .outShort)))))
    ∧ (s.mbTakes 0x0407 r [24] [] →
      let good := r.w 0 ≤ 1 ∧ r.w 1 % 8 = 0 ∧ r.w 1 ≤ 65536 ∧ r.w 2 % 8 = 0 ∧ 8 ≤ r.w 2 ∧ r.w 2 ≤ 3776
      (good → exec (.certRead r) s = .next (x.answer 0x0407 r (.ok 0 (x.certBytes (r.w 0) (r.w 1) (r.w 2)))))
      ∧ (¬good → exec (.certRead r) s = .next (x.answer 0x0407 r (.bad .badRange .none))))
    ∧ ∀ c ∈ [Instr.keyInfo r, .keyExport r, .keyStatement r, .certRead r], ∀ u, exec c s = .next u →
        ∀ g n, u.slot g n = s.slot g n


/-! ## Policies -/

/-- The policies that wait for a boundary or stand in the always-on domain (R38, R276, R319, R374, R381, R399, R405, R430):
a value in its range is kept for the next tick boundary, for the next instantiation or reset, or at once in Rind, and one out of
its range is refused with ST_BAD_RANGE; clearing a STUCK source returns what it held; a burnt fuse stays burnt and silences its
group. -/
def Obligations.PoliciesAreKept : Prop :=
  ∀ (s : State) (r : MbReq),
    let t := s.mbGo r.fn.val
    let kept := fun (code : Nat) (ok : Bool) (u : State) =>
      if ok then u.answer code r .done else t.answer code r (.bad .badRange .none)
    let later := fun (l : List Nat) => { t with flt := { t.flt with policyNext := t.flt.policyNext ++ [l] } }
    let power := fun (l : List Nat) => { t with pwr := { t.pwr with policyNext := t.pwr.policyNext ++ [l] } }
    let grace := fun (k : Nat) => within (r.w k) 10 1000000
    (s.mbTakes 0x0501 r [8] [0x8000001F] →
      (t.legacyBarred ((r.words.getD 0 0).setWidth 32) = false →
        exec (.legacySet r) s = .next ({ t with eng := { t.eng with
          legacyNext := some ((r.words.getD 0 0).setWidth 32) } }.answer 0x0501 r .done))
      ∧ (t.legacyBarred ((r.words.getD 0 0).setWidth 32) = true →
        exec (.legacySet r) s = .next (t.answer 0x0501 r (.bad .stateRefused (lcReason 3)))))
    ∧ (s.mbTakes 0x0502 r [32] [] → exec (.rngPerso r) s = .next ({ t with nv := { t.nv with
        perso := r.words.getD 3 0 ++ r.words.getD 2 0 ++ r.words.getD 1 0 ++ r.words.getD 0 0 } }.answer 0x0502 r .done))
    ∧ (s.mbTakes 0x0503 r [8] [1] → exec (.idePolicy r) s = .next ({ t with hif := { t.hif with
        ideRequire := (r.words.getD 0 0).getLsbD 0 } }.answer 0x0503 r .done))
    ∧ (s.mbTakes 0x0504 r [32] [] → r.w 0 = 1 → exec (.faultPolicySetSource r) s
        = .next (kept 0x0504 (t.sourceOk (r.w 1) (r.w 2) (r.w 3)) (later [1, r.w 1, r.w 2, r.w 3])))
    ∧ (s.mbTakes 0x0504 r [32] [] → r.w 0 = 2 → exec (.faultPolicyGrace r) s
        = .next (kept 0x0504 (grace 1 && grace 2 && grace 3) (later [2, r.w 1, r.w 2, r.w 3])))
    ∧ (s.mbTakes 0x0504 r [16] [] → r.w 0 = 3 → exec (.faultPolicyQuiet r) s
        = .next (kept 0x0504 (within (r.w 1) 1 60000) (later [3, r.w 1])))
    ∧ (s.mbTakes 0x0504 r [24] [] → r.w 0 = 4 → exec (.faultPolicyRecoveryLimit r) s
        = .next (kept 0x0504 (within (r.w 1) 1 255 && within (r.w 2) 1 65535) (later [4, r.w 1, r.w 2])))
    ∧ (s.mbTakes 0x0504 r [16] [] → r.w 0 = 5 →
      (r.w 1 < 256 → (t.src (r.w 1)).state = 2 → exec (.faultPolicyClearStuck r) s = .next (((t.setSrc (r.w 1) { t.src (r.w 1) with
        state := 0 }).unitsBack (r.w 1)).answer 0x0504 r .done))
      ∧ (256 ≤ r.w 1 ∨ (t.src (r.w 1)).state ≠ 2 → exec (.faultPolicyClearStuck r) s = .next (t.answer 0x0504 r (.detail 6))))
    ∧ (s.mbTakes 0x0505 r [24] [allOnes, allOnes, 0xEF003FFF] → r.w 0 = 1 → exec (.rindPolicySetGroup r) s
        = .next (kept 0x0505 (t.groupOk (r.w 1) (r.w 2)) { t with rnd := { t.rnd with
            cfg := Tab.put 0x21000001 t.rnd.cfg (r.w 1) (BitVec.ofNat 32 (r.w 2)) } }))
    ∧ (s.mbTakes 0x0505 r [16] [] → r.w 0 = 2 →
      exec (.rindPolicyBurnFuse r) s = .next (kept 0x0505 (decide (r.w 1 < 30)) (t.burnFuse (r.w 1)))
      ∧ (r.w 1 < 30 → (t.burnFuse (r.w 1)).fused (r.w 1) = true ∧ (t.burnFuse (r.w 1)).rnd.alarm.getLsbD (r.w 1) = false
        ∧ ∀ g, g ≠ r.w 1 → (t.burnFuse (r.w 1)).fused g = s.fused g
          ∧ (t.burnFuse (r.w 1)).rnd.alarm.getLsbD g = s.rnd.alarm.getLsbD g))
    ∧ (s.mbTakes 0x0505 r [16] [allOnes, 0x00FF00FF] → r.w 0 = 3 →
      let lo : Byte := (r.words.getD 1 0).extractLsb' 0 8
      let hi : Byte := (r.words.getD 1 0).extractLsb' 16 8
      exec (.rindPolicyTempLimits r) s = .next (kept 0x0505
        (decide (-50 ≤ lo.toInt) && decide (lo.toInt ≤ 0) && within hi.toNat 110 135)
        { t with rnd := { t.rnd with tlow := lo, thigh := hi } }))
    ∧ (s.mbTakes 0x0505 r [16] [allOnes, 0xF] → r.w 0 = 4 →
      exec (.rindPolicyTampPolarity r) s = .next ({ t with rnd := { t.rnd with
        tampPol := (r.words.getD 1 0).extractLsb' 0 4 } }.answer 0x0505 r .done))
    ∧ (s.mbTakes 0x0506 r [16] [] → r.w 0 = 1 → exec (.powerPolicyDeepest r) s
        = .next (kept 0x0506 (within (r.w 1) 1 4) (power [1, r.w 1])))
    ∧ (s.mbTakes 0x0506 r [32] [] → r.w 0 = 2 → exec (.powerPolicyIdleTimes r) s
        = .next (kept 0x0506 (grace 1 && within (r.w 2) 1 60000 && within (r.w 3) 1 3600) (power [2, r.w 1, r.w 2, r.w 3])))
    ∧ (s.mbTakes 0x0506 r [16] [] → r.w 0 = 3 → exec (.powerPolicySpread r) s
        = .next (kept 0x0506 (decide (r.w 1 ≤ 1)) (power [3, r.w 1])))

/-! ## Life cycle, firmware and regions by command -/

/-- Life-cycle commands (R24, R116, R309, R357, R359, R380, R386): a token that passes its checks stands in the token buffer and
the life-cycle reset follows 10,000 µs later, where the tenants are quiet and nothing is in progress; RECOVERY clears what it may,
with a token or without; ZEROISE and WARM_RESET are recorded and end in the warm reset, which discards the request. -/
def Obligations.LifeCycleCommands : Prop :=
  ∀ (s : State) (r : MbReq),
    let g := s.mbGo r.fn.val
    let t := g.dmaIn r 0
    let tokenLen := r.w 1 = 7540
    (∀ tok readOk, s.mbTakes 0x0601 r [16] [] →
      (¬tokenLen → exec (.lcTransition r tok readOk) s = .next (g.answer 0x0601 r (.bad .badLength .field)))
      ∧ (tokenLen → t.readable 0 readOk = false → exec (.lcTransition r tok readOk) s = .next (t.answer 0x0601 r .readFail))
      ∧ (tokenLen → t.readable 0 readOk = true →
        (∀ st why, t.tokenBad tok t.lc.nonce = some (st, why) →
          exec (.lcTransition r tok readOk) s = .next (t.answer 0x0601 r (.bad st why)))
        ∧ (t.tokenBad tok t.lc.nonce = none → tok.action = 1 →
          (t.tenantsQuiet = true → t.mpBusy = false → exec (.lcTransition r tok readOk) s = .next ({ t with
            lc := { t.lc with token := some tok, schedLc := some (s.now + 10000) } }.answer 0x0601 r .done))
          ∧ (t.tenantsQuiet = false → exec (.lcTransition r tok readOk) s = .next (t.answer 0x0601 r (.detail 6)))
          ∧ (t.tenantsQuiet = true → t.mpBusy = true →
            exec (.lcTransition r tok readOk) s = .next (t.answer 0x0601 r (.detail 1))))))
    ∧ (s.mbTakes 0x0602 r [0, 16] [] →
      (r.len = 0 → ∀ tok ok,
        (s.rnd.hold = false → s.rnd.alarm &&& s.presentNow = 0 → exec (.recovery r tok ok) s = .next ({ g with
          rnd := { g.rnd with alarm := 0 }, lc := { g.lc with schedWarm := some (s.now + 10000) } }.answer 0x0602 r .done))
        ∧ (s.rnd.hold = true ∨ s.rnd.alarm &&& s.presentNow ≠ 0 →
          exec (.recovery r tok ok) s = .next (g.answer 0x0602 r (.detail 6))))
      ∧ (r.len = 16 → tokenLen → ∀ tok ok, t.readable 0 ok = true →
        (t.recoveryBad tok = none → exec (.recovery r (some tok) ok) s = .next ({ t with
          rnd := { t.rnd with hold := false, latch := [], latchOvf := 0, alarm := 0 }
          lc := { t.lc with schedLc := some (s.now + 10000) } }.answer 0x0602 r .done))
        ∧ (∀ st why, t.recoveryBad tok = some (st, why) →
          exec (.recovery r (some tok) ok) s = .next (t.answer 0x0602 r (.bad st why)))))
    ∧ (∀ b, s.mbTakes 0x0409 r [0] [] → exec (.zeroise r b) s = .next (((g.adminRecord 0x0409 r .ok).zeroiseKeys 4).warm b))
    ∧ (∀ row, let z := s.zeroiseKeys row
      z.nv.mwk = none ∧ z.vlt.vek = false ∧ z.vlt.aliasKeys = false ∧ z.vlt.ksKey = false ∧ z.vlt.keysHalted = true
      ∧ z.hbm.keyIn = none ∧ z.hbm.keySeal = none ∧ z.hbm.keyAuth = none ∧ z.grp.member = false
      ∧ z.nv.headerMwk = s.nv.headerMwk ∧ z.lc = s.lc)
    ∧ ∀ b, s.mbTakes 0x0708 r [0] [] → exec (.warmReset r b) s = .next ((g.adminRecord 0x0708 r .ok).warm b)

/-- Firmware (R24, R331, R342 to R347, R352): FW_STAGE makes the inactive bank invalid and copies; at its end an
image that passes every check makes that bank valid and the active one stays, and one that fails a check leaves it invalid; FW_ACTIVATE puts the valid inactive bank on trial, FW_CONFIRM ends the trial
and may raise the minimum SVN, which never falls; FW_RESTART, the watchdog and a lockstep mismatch stop the processor, whose start
comes up from a bank that passes, reverts a trial that a fault ended, takes the other bank where the active one fails, or leaves
the ROM's loader where both do. -/
def Obligations.FirmwareIsReplaced : Prop :=
  ∀ (s : State) (r : MbReq),
    let t := s.mbGo r.fn.val
    (∀ img readOk, s.mbTakes 0x0701 r [16] [] → t.mpBusy = false → s.mp.trial = false →
      let x := (t.setIdleBank { t.idleBank with valid := false }).dmaIn r 0
      (x.readable 0 readOk = true →
        exec (.fwStage r img readOk) s = .next { x with mp := { x.mp with staging := true, stage := some (r, img) } })
      ∧ (x.readable 0 readOk = false → exec (.fwStage r img readOk) s = .next (x.answer 0x0701 r .readFail))
      ∧ x.idleBank = { s.idleBank with valid := false } ∧ x.activeBank = s.activeBank)
    ∧ (s.mp.stage = none → s.stageEnd = s)
    ∧ (∀ img, s.mp.stage = some (r, img) →
      let y := { s with mp := { s.mp with staging := false, stage := none } }
      (y.imageBad (r.w 1) img = none →
        s.stageEnd = ((y.setIdleBank (bankOf img s.free)).draw 144).answer 0x0701 r .done
        ∧ (y.setIdleBank (bankOf img s.free)).idleBank = bankOf img s.free
        ∧ (y.setIdleBank (bankOf img s.free)).activeBank = s.activeBank)
      ∧ (∀ st why, y.imageBad (r.w 1) img = some (st, why) → s.stageEnd = y.answer 0x0701 r (.bad st why)))
    ∧ (∀ img readOk, s.mbTakes 0x0701 r [16] [] → t.mpBusy = true ∨ s.mp.trial = true →
      exec (.fwStage r img readOk) s = .next (t.answer 0x0701 r (.detail (if t.mpBusy then 1 else 3))))
    ∧ (s.mbTakes 0x0702 r [0] [] →
      (t.mpBusy = false → t.idleBank.valid = true → exec (.fwActivate r) s = .next ({ t with mp := { t.mp with
        activeB := !t.mp.activeB, trial := true, reverted := false, actReq := some (0, 0x0702, r.token) } }.fwStop 2 false))
      ∧ (t.mpBusy = false → t.idleBank.valid = false → exec (.fwActivate r) s = .next (t.answer 0x0702 r (.detail 4)))
      ∧ (t.mpBusy = true → exec (.fwActivate r) s = .next (t.answer 0x0702 r (.detail 1))))
    ∧ (s.mbTakes 0x0703 r [8] [1] → ∃ u : State, exec (.fwConfirm r) s = .next (u.answer 0x0703 r .done) ∧ u.mp.trial = false
      ∧ u.activeBank = s.activeBank
      ∧ u.nv.svnMin = (if (r.words.getD 0 0).getLsbD 0 then max s.nv.svnMin s.activeBank.svn else s.nv.svnMin)
      ∧ (u.idleBank.valid = true → s.idleBank.valid = true))
    ∧ (s.mbTakes 0x0704 r [0] [] → exec (.fwRestart r) s = .next ({ t with mp := { t.mp with
        actReq := some (0, 0x0704, r.token) } }.fwStop 1 false))
    ∧ (s.up = true → s.mp.serving = true → exec .watchdogExpire s = .next (s.fwFault 26 3 true {})
      ∧ (∀ pair : Fin 2, exec (.lockstepMismatch pair) s = .next (s.fwFault (24 + pair.val) 4 true {})))
    ∧ (s.up = false ∨ s.mp.serving = false → exec .watchdogExpire s = .next s
      ∧ ∀ pair : Fin 2, exec (.lockstepMismatch pair) s = .next s)
    ∧ (∀ cause revert, (s.fwStop cause revert).mp.serving = false ∧ (s.fwStop cause revert).mp.stage = none
      ∧ (s.fwStop cause revert).mp.service = false
      ∧ (s.fwStop cause revert).mp.restart = some (cause, revert) ∧ (s.fwStop cause revert).spdm.session = none
      ∧ (s.fwStop cause revert).vlt = s.vlt ∧ (s.fwStop cause revert).orc = s.orc
      ∧ (s.fwStop cause revert).log = s.log)
    ∧ ∀ cause revert (a b c : Bool), s.up = true →
        let x := { s with mp := { s.mp with restart := none } }
        let act := s.bankPasses s.activeBank (if s.mp.activeB then b else a)
        let oth := s.bankPasses s.idleBank (if s.mp.activeB then a else b)
        let done := fun (y : State) => ((y.answerStart s.mp.trial).resendCommits).resumeReload.refresh
        (s.mp.restart = none → exec (.firmwareStart a b c) s = .next s)
        ∧ (s.mp.restart = some (cause, revert) →
          (revert = true → s.mp.trial = true →
            exec (.firmwareStart a b c) s = .next (done (x.revertTrial.startFw 6 a b c false)))
          ∧ ((revert && s.mp.trial) = false →
            (act = true → exec (.firmwareStart a b c) s = .next (done (x.fwUp cause c oth))
              ∧ (c = true → (x.fwUp cause c oth).mp.running = true ∧ (x.fwUp cause c oth).mp.service = true
                ∧ (x.fwUp cause c oth).mp.epoch = (s.mp.epoch + 1) % 65536 ∧ (x.fwUp cause c oth).mp.lastCause = cause
                ∧ (x.fwUp cause c oth).mp.activeB = s.mp.activeB))
            ∧ (act = false → oth = false → exec (.firmwareStart a b c) s = .next (done ((x.raiseLow 38 0xFF 0 false).runLoader)))
            ∧ (act = false → oth = true → ∃ y : State, exec (.firmwareStart a b c) s = .next (done y)
              ∧ (c = true → y.mp.running = true ∧ y.mp.activeB = !s.mp.activeB ∧ y.mp.trial = false))))

/-- Regions and units by command (R116, R348, R349, R399, R477, R478): a reload or reset of a region that is not the last in service
begins with its drain, or goes past it where the region is out of service; a unit goes out and comes back. The last region in
service is refused with DETAIL 2 and a second reload with DETAIL 1, while a request for the region whose reload goes on without one
is answered at its end. -/
def Obligations.RegionsByCommand : Prop :=
  ∀ (s : State) (r : MbReq),
    let t := s.mbGo r.fn.val
    let g : Fin 4 := ⟨r.w 0 % 4, Nat.mod_lt _ (by decide)⟩
    let last := (s.region (r.w 0)).inService && !t.othersServe (r.w 0)
    let run := fun (code : Nat) (c : Instr) (reset : Bool) (choice : Option Nat) =>
      (s.mp.rlBusy = false → last = false → exec c s = .next (t.startReload r reset choice))
      ∧ (s.mp.rlBusy = false → last = true → exec c s = .next (t.answer code r (.detail 2)))
      ∧ (s.mp.rlBusy = true →
        (s.mp.rlReq = none → s.mp.rlRegion.val = r.w 0 → s.mp.rlReset = reset →
          exec c s = .next { t with mp := { t.mp with rlReq := some (0, code, r.token) } })
        ∧ (s.mp.rlReq ≠ none ∨ s.mp.rlRegion.val ≠ r.w 0 ∨ s.mp.rlReset ≠ reset →
          exec c s = .next (t.answer code r (.detail 1))))
    (s.mbTakes 0x0705 r [32] [allOnes, 1] →
      (reloadRange r = true → r.w 1 = 1 → run 0x0705 (.regionReload r) false none)
      ∧ (∀ f, reloadRange r = true → r.w 1 = 0 → t.familyOf (r.w 3) = some f → run 0x0705 (.regionReload r) false (some f))
      ∧ (reloadRange r = false ∨ (r.w 1 = 0 ∧ t.familyOf (r.w 3) = none) →
        exec (.regionReload r) s = .next (t.answer 0x0705 r (.bad .badRange .none))))
    ∧ (s.mbTakes 0x0706 r [32] [allOnes, 0, allOnes, 0] →
      (reloadRange r = true → run 0x0706 (.regionReset r) true none)
      ∧ (reloadRange r = false → exec (.regionReset r) s = .next (t.answer 0x0706 r (.bad .badRange .none))))
    ∧ (∀ reset choice, r.w 0 < 4 → (s.region (r.w 0)).inService = true →
      let u := s.startReload r reset choice
      u.mp.rlBusy = true ∧ u.mp.rlRegion = g ∧ u.mp.rlReset = reset ∧ u.mp.rlStart = s.now ∧ u.mp.rlLimit = r.w 2
        ∧ u.mp.rlReq = some (0, if reset then 0x0706 else 0x0705, r.token))
    ∧ (s.mbTakes 0x0707 r [24] [allOnes, allOnes, 1] → ∀ c, classOf (r.w 0) = some c → r.w 1 < classCount c →
        (r.w 2 = 1 → exec (.unitService r) s = .next ((t.unitIn c (r.w 1)).answer 0x0707 r .done)
          ∧ ((t.unitIn c (r.w 1)).cell c (r.w 1)).inService = true)
        ∧ (r.w 2 = 0 → t.lastUnit c (r.w 1) = false →
          exec (.unitService r) s = .next ((t.unitOut c (r.w 1)).answer 0x0707 r .done))
        ∧ (r.w 2 = 0 → t.lastUnit c (r.w 1) = true → exec (.unitService r) s = .next (t.answer 0x0707 r (.detail 2))))
    ∧ (s.mbTakes 0x0707 r [24] [allOnes, allOnes, 1] → classOf (r.w 0) = none ∨ (∃ c, classOf (r.w 0) = some c ∧ classCount c ≤ r.w 1) →
      exec (.unitService r) s = .next (t.answer 0x0707 r (.bad .badRange .none)))

/-! ## Replication groups -/

/-- GROUP_CONFIG (R443, R446, R448 to R450, R455, R456; what the spec leaves to the device is of assumption 33): a device
creates a group, asks to join, admits a member, accepts, names a peer's path, marks a tenant, removes a member or leaves,
rejoins through a resync, sets its relay ring and its sideband INSTANCE. What a membership does not allow is refused. -/
def Obligations.GroupsAreConfigured : Prop :=
  ∀ (s : State) (r : MbReq),
    let t := s.mbGo r.fn.val
    let d := t.dmaIn r 1
    let say := fun (u : State) (x : Reply) => Host.Outcome.next (φ := Fault) (ρ := Refusal) (u.answer 0x0801 r x)
    (s.mbTakes 0x0801 r [32] [] → r.w 0 = 1 →
      let ok := r.w 1 ≠ 0 ∧ 1 ≤ r.w 2 ∧ r.w 2 ≤ 64 ∧ 1 ≤ r.w 3 ∧ r.w 3 ≤ 1000
      (¬ok → exec (.groupCreate r) s = say t (.bad .badRange .none))
      ∧ (ok → s.grp.member = true → exec (.groupCreate r) s = say t (.detail 6))
      ∧ (ok → s.grp.member = false → t.commits = true → exec (.groupCreate r) s = say (t.setGrp { t.grp with
        member := true, index := 0, groupId := r.words.getD 1 0, quorum := r.w 2, mirrorTo := r.w 3, epoch := 0, gk := true
        joinOpen := false, peers := [], window := [] }).checkQuorum .done))
    ∧ (s.mbTakes 0x0801 r [24] [] → r.w 0 = 2 →
      let n := (Config.freeWord s.free).toNat
      (s.grp.member = true → exec (.groupJoinRequest r) s = say t (.detail 6))
      ∧ (s.grp.member = false → ∃ u : State, u.grp.member = false ∧
        (n ≤ r.w 2 → exec (.groupJoinRequest r) s = say u (.words [BitVec.ofNat 64 n]) ∧ u.grp.joinOpen = true)
        ∧ (r.w 2 < n → exec (.groupJoinRequest r) s = say u (.bad .badLength .outShort) ∧ u.grp.joinOpen = s.grp.joinOpen)))
    ∧ (∀ readOk formatOk sigsOk state ikh id, s.mbTakes 0x0801 r [40] [] → r.w 0 = 3 → r.w 3 < 64 → s.grp.member = true →
      (d.readable 0 readOk = false → exec (.groupAdmit r readOk formatOk sigsOk state ikh id) s = say d .readFail)
      ∧ (d.readable 0 readOk = true →
        (formatOk = false ∨ sigsOk = false →
          exec (.groupAdmit r readOk formatOk sigsOk state ikh id) s = say d (.bad .badFormat .none))
        ∧ (formatOk = true → sigsOk = true → state ≠ s.lcState ∨ ikh ≠ s.lc.ikh ∨ d.admits (r.w 3) id = false →
          exec (.groupAdmit r readOk formatOk sigsOk state ikh id) s = say d (.bad .badRange .none))
        ∧ (formatOk = true → sigsOk = true → state = s.lcState → ikh = s.lc.ikh → d.admits (r.w 3) id = true →
          ∃ u : State, exec (.groupAdmit r readOk formatOk sigsOk state ikh id) s = say u.checkQuorum .done
            ∧ u.peer (r.w 3) = { member := true, deviceId := id } ∧ ∀ i, i ≠ r.w 3 → u.peer i = s.peer i)))
    ∧ (∀ readOk formatOk sigsOk state ikh gid (index admitter : Fin 64) quorum mirrorTo id, s.mbTakes 0x0801 r [24] [] → r.w 0 = 4 →
      let c := exec (.groupAccept r readOk formatOk sigsOk state ikh gid index admitter quorum mirrorTo id) s
      (s.grp.member = true ∨ s.grp.joinOpen = false → c = say t (.detail 6))
      ∧ (s.grp.member = false → s.grp.joinOpen = true →
        (d.readable 0 readOk = false → c = say d .readFail)
        ∧ (d.readable 0 readOk = true →
          (formatOk = false ∨ sigsOk = false → c = say d (.bad .badFormat .none))
          ∧ (formatOk = true → sigsOk = true → state ≠ s.lcState ∨ ikh ≠ s.lc.ikh → c = say d (.bad .badRange .none))
          ∧ (formatOk = true → sigsOk = true → state = s.lcState → ikh = s.lc.ikh → d.commits = true →
            c = say (((d.setGrp { d.grp with
              member := true, index := index.val, groupId := gid, quorum := quorum, mirrorTo := mirrorTo, epoch := 0, gk := true
              joinOpen := false, window := [], peers := [(admitter.val, { member := true, deviceId := id })] }).checkQuorum).startResync
                admitter.val) .done))))
    ∧ (s.mbTakes 0x0801 r [24] [] → r.w 0 = 5 → r.w 1 < 64 →
      (s.grp.member = true → r.w 1 ≠ s.grp.index → exec (.groupPeer r) s = say (t.setPeer (r.w 1) { t.peer (r.w 1) with
        member := true, addr := r.words.getD 2 0 }) .done)
      ∧ (s.grp.member = false ∨ r.w 1 = s.grp.index → exec (.groupPeer r) s = say t (.detail 6)))
    ∧ (s.mbTakes 0x0801 r [24] [] → r.w 0 = 6 → 1 ≤ r.w 1 → r.w 1 ≤ 1023 → r.w 2 ≤ 1 →
      (s.grp.member = false → exec (.groupMirrorTenant r) s = say t (.detail 6))
      ∧ (s.grp.member = true → (t.fn (r.w 1)).ten.st = .notCreated →
        exec (.groupMirrorTenant r) s = say t (.bad .stateRefused .tenantNotCreated))
      ∧ (s.grp.member = true → (t.fn (r.w 1)).ten.st ≠ .notCreated →
        exec (.groupMirrorTenant r) s = say ((t.setTen (r.w 1) { (t.fn (r.w 1)).ten with
          mirrored := r.w 2 == 1 }).refreshFn (r.w 1)) .done))
    ∧ (s.mbTakes 0x0801 r [16] [] → r.w 0 = 7 → r.w 1 < 64 →
      (s.grp.member = false ∨ (r.w 1 ≠ s.grp.index ∧ (s.peer (r.w 1)).member = false) →
        exec (.groupRemove r) s = say t (.detail 6))
      ∧ (s.grp.member = true → r.w 1 = s.grp.index → exec (.groupRemove r) s = say t.leaveGroup .done
        ∧ t.leaveGroup.grp.member = false)
      ∧ (s.grp.member = true → r.w 1 ≠ s.grp.index → (s.peer (r.w 1)).member = true →
        exec (.groupRemove r) s = say (t.dropPeer (r.w 1)) .done ∧ ((t.dropPeer (r.w 1)).peer (r.w 1)).member = false))
    ∧ (s.mbTakes 0x0801 r [16] [] → r.w 0 = 8 → r.w 1 < 64 →
      (s.grp.member = true → (s.peer (r.w 1)).member = true → r.w 1 ≠ s.grp.index →
        ∃ u : State, exec (.groupRejoin r) s = .next u ∧ u.grp.resyncing = some (r.w 1)
        ∧ u.grp.req = some r.token ∧ u.grp.mseq = s.grp.mseq + 1 ∧ (u.fn r.fn.val).mb.busy = true)
      ∧ (s.grp.member = false ∨ (s.peer (r.w 1)).member = false ∨ r.w 1 = s.grp.index →
        exec (.groupRejoin r) s = say t (.detail 6)))
    ∧ (s.mbTakes 0x0801 r [24] [] → r.w 0 = 9 →
      (r.w 2 ∈ [16, 32, 64, 128, 256, 512, 1024, 2048, 4096] → exec (.groupRelayRing r) s = say (t.setGrp { t.grp with
        ringAddr := r.words.getD 1 0, ringLen := r.w 2, ringPos := 0 }) .done)
      ∧ (r.w 2 ∉ [16, 32, 64, 128, 256, 512, 1024, 2048, 4096] →
        exec (.groupRelayRing r) s = say t (.bad .badRange .none)))
    ∧ (s.mbTakes 0x0801 r [16] [] → r.w 0 = 10 →
      (s.lcState ≠ 2 → exec (.groupSidebandId r) s = say t (.bad .stateRefused (lcReason s.lcState)))
      ∧ (s.lcState = 2 → r.w 1 < 65536 → exec (.groupSidebandId r) s = say { t with nv := { t.nv with
        sbInstance := BitVec.ofNat 16 (r.w 1), sbInstanceSet := true } } .done)
      ∧ (s.lcState = 2 → 65536 ≤ r.w 1 → exec (.groupSidebandId r) s = say t (.bad .badRange .none)))


/-! ## Registers -/

/-- In ALARMED mode BAR4 answers reads in the HIF_, LC_, RND_, FLT_ and LOG_ windows alone, each with what its registers
hold; it reads 0 elsewhere and ignores every write, by whichever row it comes (R33). -/
def Obligations.AlarmedBar4 : Prop :=
  ∀ s : State, s.reaches 0 = true → (s.fn 0).port.mse = true → s.rnd.alarmed = true → s.scrapped = false →
    (∀ off size, off < 0x100000 → accessOk off size = true → off / 0x10000 ∉ [0, 8, 9, 10] →
      exec (.registerRead 0 4 off size) s = .next { s with outbox := s.outbox ++ [.read 0] })
    ∧ (∀ off, accessOk off 4 = true → off / 0x10000 ∈ [0, 8, 9, 10] → ∃ (t : State) (v : Word),
        exec (.registerRead 0 4 off 4) s = .next t ∧ t = { s with outbox := s.outbox ++ [.read (v.setWidth 64)], flt := t.flt }
        ∧ t.flt = { s.flt with firstLatch := t.flt.firstLatch, histLatch := t.flt.histLatch }
        ∧ (off < 0x10000 → v = s.regHif off)
        ∧ (0x80000 ≤ off → off < 0x88000 → v = s.regRnd (off - 0x80000))
        ∧ (0x88000 ≤ off → off < 0x90000 → v = s.regLc (off - 0x88000))
        ∧ (0x90000 ≤ off → off < 0xA0000 → v = s.regFlt (off - 0x90000))
        ∧ (0xA0000 ≤ off → v = s.regLog (off - 0xA0000)))
    ∧ (∀ off, accessOk off 8 = true → off / 0x10000 ∈ [0, 8, 9, 10] → ∃ t : State, exec (.registerRead 0 4 off 8) s = .next t
        ∧ ∃ v : QWord, t = { s with outbox := s.outbox ++ [.read v], flt := t.flt })
    ∧ (∀ off size v, off < 0x100000 → accessOk off size = true → exec (.registerWrite 0 4 off size v) s = .next s)
    ∧ ∀ (v : Word) (lane : BitVec 4) (pc : BitVec 6) (errors : Nat) (silent : List (Fin 30)) (b : BootIn),
        ∀ c ∈ [Instr.orcTraceCtrlWrite v, .rngCtrlReseed v, .rngRawCtrlWrite v, .runAll silent b, .rndAlarmWrite v,
            .fltAck v, .fltFirstSrcClear v, .hifLpbkOff lane, .hifLpbkNearSerial lane errors, .hifLpbkNearParallel lane errors,
            .hifLpbkLtssm lane false, .hifLpbkTransaction lane, .hbmLpbkOff pc b, .hbmLpbkPhy pc errors,
            .hbmLpbkFarEnd pc errors, .hbmLpbkMarch pc errors, .sbLpbkOff, .sbLpbkPad errors, .sbLpbkProtocol errors],
          exec c s = .next s

/-- Accesses to registers (R5, R21 to R27, R34, R36, R324 to R326): without Memory Space Enable an access completes with
Unsupported Request; one of another size or alignment only sets BAD_ACCESS and reads 0; one past a BAR reaches nothing; a read gives
what the register holds and leaves the state as it is, one of 8 bytes gives two words, the first at the lower address; reads of
RNG_DATA take bytes, or set UNDERRUN and count. Configuration space gives its fields, by the numbers of assumption 11, and
Configuration Request Retry Status while a function does not yet answer. -/
def Obligations.RegistersAnswer : Prop :=
  ∀ (s : State) (fn : Fin 1024), s.reaches fn.val = true →
    ((s.fn fn.val).port.mse = false → ∀ bar off size v, inBar fn.val bar off = true →
      exec (.registerRead fn bar off size) s = .next { s with outbox := s.outbox ++ [.unsupported] }
      ∧ exec (.registerWrite fn bar off size v) s = .next { s with outbox := s.outbox ++ [.unsupported] })
    ∧ (∀ bar off size v, bar ≠ 6 → inBar fn.val bar off = false →
      exec (.registerRead fn bar off size) s = .next s ∧ exec (.registerWrite fn bar off size v) s = .next s)
    ∧ ((s.fn fn.val).port.mse = true → ∀ bar off size, inBar fn.val bar off = true → accessOk off size = false →
      exec (.registerRead fn bar off size) s = .next ((s.badAccess fn.val).emit (.read 0))
      ∧ (s.scrapped = false → ∀ v, exec (.registerWrite fn bar off size v) s = .next (s.badAccess fn.val))
      ∧ ((s.badAccess fn.val).fn fn.val).port.events.getLsbD 4 = true)
    ∧ ((s.fn fn.val).port.mse = true → ∀ off, off < 0x10000 → off % 4 = 0 →
      (off ≠ 0x2000 → off ≠ 0x2004 → exec (.registerRead fn 0 off 4) s =
        .next { s with outbox := s.outbox ++ [.read ((s.reg0 fn.val off).setWidth 64)] })
      ∧ exec (.registerRead fn 2 off 4) s = .next { s with outbox := s.outbox ++ [.read ((s.reg2 fn.val off).setWidth 64)] }
      ∧ (off % 8 = 0 → exec (.registerRead fn 2 off 8) s =
          .next { s with outbox := s.outbox ++ [.read (s.reg2 fn.val (off + 4) ++ s.reg2 fn.val off)] })
      ∧ (off % 8 = 0 → off ≠ 0x2000 → exec (.registerRead fn 0 off 8) s =
          .next { s with outbox := s.outbox ++ [.read (s.reg0 fn.val (off + 4) ++ s.reg0 fn.val off)] }))
    ∧ (∀ off size, (s.fn fn.val).port.mse = true → accessOk off size = true → off = 0x2000 ∨ off = 0x2004 →
      (size ≤ (s.fn fn.val).rngw.buf.length → ∃ t : State, exec (.rngDataRead fn off size) s = .next t
        ∧ exec (.registerRead fn 0 off size) s = .next t
        ∧ (t.fn fn.val).rngw.buf = (s.fn fn.val).rngw.buf.drop size
        ∧ t.outbox = s.outbox ++ [.read (BitVec.ofNat 64 (bytesNat ((s.fn fn.val).rngw.buf.take size)))]
        ∧ (t.fn fn.val).rngw.underruns = (s.fn fn.val).rngw.underruns ∧ (∀ g, g ≠ fn.val → t.fn g = s.fn g)
        ∧ t = { s with fns := t.fns, outbox := t.outbox })
      ∧ ((s.fn fn.val).rngw.buf.length < size → ∃ t : State, exec (.rngDataRead fn off size) s = .next t
        ∧ exec (.registerRead fn 0 off size) s = .next t
        ∧ (t.fn fn.val).rngw.buf = (s.fn fn.val).rngw.buf ∧ (t.fn fn.val).rngw.underrun = true
        ∧ (t.fn fn.val).rngw.underruns = satSucc (s.fn fn.val).rngw.underruns
        ∧ t.outbox = s.outbox ++ [.read 0] ∧ (∀ g, g ≠ fn.val → t.fn g = s.fn g)))
    ∧ (∀ size, (s.fn fn.val).port.mse = true → accessOk 0x2000 size = false →
        exec (.rngDataRead fn 0x2000 size) s = .next ((s.badAccess fn.val).emit (.read 0)))
    ∧ ((s.fn 0).port.mse = true → fn = 0 → s.answers 0x20000 = true → ∃ t : State,
        exec (.registerRead 0 4 0x20000 8) s = .next t ∧ t.orc.tickLatch = hiWord s.orc.tick
        ∧ t.outbox = s.outbox ++ [.read (hiWord s.orc.tick ++ loWord s.orc.tick)])
    ∧ (∀ off size, s.cfgReaches fn.val = true → exec (.registerRead fn 6 off size) s = .next { s with
        outbox := s.outbox ++ [.read ((s.readCfg fn.val off).setWidth 64)] })
    ∧ (∀ off size, s.cfgReaches fn.val = false →
        exec (.registerRead fn 6 off size) s = .next { s with outbox := s.outbox ++ [.crs] })
    ∧ s.readCfg fn.val 6 = (if fn.val = 0 then 0x9640 else 0x9641) ∧ s.readCfg fn.val 7 = 0xB0 ∧ s.readCfg fn.val 8 = 0x1080
    ∧ s.readCfg 0 11 = (if s.hif.ari then 1023 else 0)
    ∧ ((s.fn fn.val).ten.msix ≤ 2048 → (s.readCfg fn.val 9).toNat = (s.fn fn.val).ten.msix - 1)

/-- Writes to registers (R5, R25 to R29, R31, R45, R46, R48, R94, R111, R429): a flag written 1 clears and a saturating counter
clears by all ones alone; FN_CONTROL, ORC_TRACE_CTRL (ENABLE waits for the boundary) and FN_LAT_TOL take their fields; a read-only
register takes nothing; a write of 8 bytes is two of 4, the low one first, and a BAR2 write is the doorbell of its address.
Configuration-space fields and their numbers are the model's (assumption 11). -/
def Obligations.RegistersAreWritten : Prop :=
  ∀ (s : State) (fn : Fin 1024), s.reaches fn.val = true → (s.fn fn.val).port.mse = true → s.scrapped = false →
    (∀ v : Word, exec (.registerWrite fn 0 0x00C 4 (v.setWidth 64)) s = .next (s.setPort fn.val { (s.fn fn.val).port with
        events := (s.fn fn.val).port.events &&& ~~~(v.setWidth 5) }))
    ∧ (∀ v : Word, exec (.registerWrite fn 0 0x01C 4 (v.setWidth 64)) s = .next (s.setPort fn.val { (s.fn fn.val).port with
        dbDrops := if v = 0xFFFFFFFF then 0 else (s.fn fn.val).port.dbDrops }))
    ∧ (∀ v : QWord, exec (.registerWrite fn 0 0x128 4 v) s = .next (s.setShare fn.val { (s.fn fn.val).share with
        overload := if v.setWidth 32 = (0xFFFFFFFF : Word) then 0 else (s.fn fn.val).share.overload }))
    ∧ (∀ v off, off ∈ [0x000, 0x004, 0x010, 0x014, 0x020, 0x100, 0x1004, 0x140] →
        exec (.registerWrite fn 0 off 4 v) s = .next s)
    ∧ (∀ bar off (v : QWord), off % 8 = 0 → inBar fn.val bar off = true → ∃ u : State,
        exec (.registerWrite fn bar off 4 ((v.setWidth 32).setWidth 64)) s = .next u
        ∧ exec (.registerWrite fn bar off 8 v) s = .next (u.write1 fn.val bar (off + 4) (v.extractLsb' 32 32)))
    ∧ (∀ q (v : QWord) (w : Word), q < 4096 →
        exec (.registerWrite fn 2 (16 * q) 4 v) s = exec (.sqDb fn q 4 v) s
        ∧ exec (.registerWrite fn 2 (16 * q) 8 v) s = exec (.sqDb fn q 8 v) s
        ∧ exec (.registerWrite fn 2 (16 * q + 4) 4 (w.setWidth 64)) s = exec (.cqDb fn q 4 w) s
        ∧ exec (.registerWrite fn 2 (16 * q + 8) 4 (w.setWidth 64)) s = exec (.cancel fn q 4 w) s)
    ∧ (∀ v : Word, exec (.fnControlWrite fn v) s = .next (s.setPort fn.val { (s.fn fn.val).port with
        evtVec := v.extractLsb' 4 12, evtEn := v.getLsbD 1, fetchStop := v.getLsbD 0 })
        ∧ exec (.registerWrite fn 0 0x008 4 (v.setWidth 64)) s = exec (.fnControlWrite fn v) s)
    ∧ (∀ v : Word, exec (.fnLatTolWrite fn v) s = .next
        ((s.setPort fn.val { (s.fn fn.val).port with latTol := v.setWidth 16 }).noteTol)
        ∧ exec (.registerWrite fn 0 0x018 4 (v.setWidth 64)) s = exec (.fnLatTolWrite fn v) s)
    ∧ (∀ v : Word, s.rnd.alarmed = false → fn = 0 →
        (v.getLsbD 31 = false ∨ (8 ≤ v.toNat % 32 ∧ v.toNat % 32 ≤ 20) → exec (.orcTraceCtrlWrite v) s = .next { s with
          orc := { s.orc with traceNext := some (v &&& 0xE3FF001F)
                              traceCtrl := (v &&& 0x63FF001F) ||| (s.orc.traceCtrl &&& 0x80000000) } })
        ∧ (v.getLsbD 31 = true → v.toNat % 32 < 8 ∨ 20 < v.toNat % 32 → exec (.orcTraceCtrlWrite v) s = .next s))
    ∧ (∀ off size v, s.cfgReaches fn.val = true →
        exec (.registerWrite fn 6 off size v) s = .next (s.writeCfg fn.val off (v.setWidth 32)))
    ∧ (∀ off size v, s.cfgReaches fn.val = false → exec (.registerWrite fn 6 off size v) s = .next s)
    ∧ (∀ v : Word, s.writeCfg fn.val 1 v = { s with hif := { s.hif with ltrMax := v.setWidth 16 } }
        ∧ (s.writeCfg fn.val 3 v).hif.buses = (if 1 ≤ v.toNat ∧ v.toNat ≤ 4 ∧ s.hif.vfEnable = false then v.toNat
            else s.hif.buses)
        ∧ ∀ off, off ∈ [5, 6, 7, 8, 9, 10, 11, 12, 13, 14, 15, 16, 18, 30] → s.writeCfg fn.val off v = s)

/-! ## Loopback -/

/-- Loopback of the host port, HBM and the sideband (R41, R42, R220, R458): a depth other than 0 is accepted while no function
has READY set, and then READY of every function follows; changing the lane or the pseudo-channel clears its error counter.
Depth 4 of the host port sends a TLP back. HBM retrains when its depth returns to 0. -/
def Obligations.Loopbacks : Prop :=
  ∀ s : State, s.bar4Writes = true →
    (∀ (lane : BitVec 4) (errors : Nat), s.noneReady = true →
      let e := if lane = s.hif.lpbkLane then s.hif.lpbkErr else 0
      exec (.hifLpbkNearSerial lane errors) s = .next ({ s with hif := { s.hif with
        lpbkDepth := 1, lpbkLane := lane, lpbkErr := satAdd e errors } }).refresh
      ∧ exec (.hifLpbkNearParallel lane errors) s = .next ({ s with hif := { s.hif with
        lpbkDepth := 2, lpbkLane := lane, lpbkErr := satAdd e errors } }).refresh
      ∧ exec (.hifLpbkLtssm lane false) s = .next ({ s with hif := { s.hif with
        lpbkDepth := 3, lpbkLane := lane, lpbkErr := e } }).refresh
      ∧ exec (.hifLpbkTransaction lane) s = .next ({ s with hif := { s.hif with
        lpbkDepth := 4, lpbkLane := lane, lpbkErr := e } }).refresh)
    ∧ (∀ (lane : BitVec 4) (errors : Nat), s.noneReady = false →
      ∀ c ∈ [Instr.hifLpbkNearSerial lane errors, .hifLpbkNearParallel lane errors, .hifLpbkLtssm lane false,
          .hifLpbkTransaction lane], exec c s = .next { s with hif := { s.hif with lpbkDepth := 0 } })
    ∧ (∀ lane, exec (.hifLpbkOff lane) s = .next ({ s with hif := { s.hif with
        lpbkDepth := 0, lpbkLane := lane, lpbkErr := if lane = s.hif.lpbkLane then s.hif.lpbkErr else 0 } }).refresh)
    ∧ (∀ lane, (s.noneReady = true → exec (.hifLpbkLtssm lane true) s = .next { s with hif := { s.hif with
        lpbkPartner := true } })
      ∧ (s.noneReady = false → exec (.hifLpbkLtssm lane true) s = .next s))
    ∧ (∀ data, (s.hif.lpbkDepth = 4 → (s.fn 0).port.bme = true →
        exec (.lpbkTlpReturn data) s = .next { s with outbox := s.outbox ++ [.bytes 0 s.hif.lpbkAddr data] })
      ∧ (s.hif.lpbkDepth ≠ 4 ∨ (s.fn 0).port.bme = false → exec (.lpbkTlpReturn data) s = .next s))
    ∧ (∀ (pc : BitVec 6) (errors : Nat),
      let e := if pc = s.hbm.lpbkPc then s.hbm.lpbkErr else 0
      (s.noneReady = true →
        exec (.hbmLpbkPhy pc errors) s = .next ({ s with hbm := { s.hbm with
          lpbkDepth := 1, lpbkPc := pc, lpbkErr := satAdd e errors } }).refresh
        ∧ exec (.hbmLpbkFarEnd pc errors) s = .next ({ s with hbm := { s.hbm with
          lpbkDepth := 2, lpbkPc := pc, lpbkErr := satAdd e errors } }).refresh
        ∧ exec (.hbmLpbkMarch pc errors) s = .next ({ s with hbm := { s.hbm with
          lpbkDepth := 3, lpbkPc := pc, lpbkErr := satAdd e errors } }).refresh)
      ∧ (s.noneReady = false → ∀ c ∈ [Instr.hbmLpbkPhy pc errors, .hbmLpbkFarEnd pc errors, .hbmLpbkMarch pc errors],
          exec c s = .next { s with hbm := { s.hbm with lpbkDepth := 0 } }))
    ∧ (∀ (pc : BitVec 6) (b : BootIn),
      (s.hbm.lpbkDepth = 0 → exec (.hbmLpbkOff pc b) s = .next { s with hbm := { s.hbm with
        lpbkPc := pc, lpbkErr := if pc = s.hbm.lpbkPc then s.hbm.lpbkErr else 0 } })
      ∧ (s.hbm.lpbkDepth ≠ 0 → ∃ t : State, exec (.hbmLpbkOff pc b) s = .next t ∧ t.hbm.lpbkDepth = 0
          ∧ t.hbm.lpbkPc = pc ∧ t.hbm.trained = true ∧ t.hbm.pcOut = b.pcFail
          ∧ (b.pcFail = 0 → t.vlt.blobs = [] ∧ (∀ e ∈ t.pulp.entries, e.onChip = true) ∧ t.orc = s.orc ∧ t.eng = s.eng
            ∧ t.log = s.log ∧ t.flt = s.flt)))
    ∧ (∀ errors : Nat,
      (s.noneReady = true →
        exec (.sbLpbkPad errors) s = .next ({ s with sb := { s.sb with
          lpbkDepth := 1, lpbkErr := satAdd s.sb.lpbkErr errors } }).refresh
        ∧ exec (.sbLpbkProtocol errors) s = .next ({ s with sb := { s.sb with
          lpbkDepth := 2, lpbkErr := satAdd s.sb.lpbkErr errors } }).refresh)
      ∧ (s.noneReady = false →
        exec (.sbLpbkPad errors) s = .next s ∧ exec (.sbLpbkProtocol errors) s = .next s))
    ∧ exec .sbLpbkOff s = .next ({ s with sb := { s.sb with lpbkDepth := 0 } }).refresh


/-! ## Regions and control stores -/

/-- Regions leave and come back (R90, R119, R149, R150, R348, R349, R389, R392 to R395, R478): a lost region is out at once, its
units are empty and the other regions and the vault stay; a drained one leaves, and a reload or a reset of it goes on, or fails
where a quarantine or a source holds the region; the drain limit loses the region; a load that passes switches the region's control
stores to the family chosen and puts the region into service once an engine passes its tests, and one that fails leaves it out. -/
def Obligations.RegionsLeaveAndReturn : Prop :=
  ∀ (s : State) (region : Fin 4), s.tablesWf →
    let r := region.val
    let late := s.reloads r && decide (2 ≤ s.mp.rlStep)
    let fam := (s.region r).choice.getD (highestFam s.activeBank.families)
    let back := s.mp.rlBack && (s.cluster (4 * r)).altValid
    let held := (s.region r).quarantine || s.sourceHolds r
    (s.up = true → ((s.region r).inService || late) = true →
      exec (.regionLost region) s = .next (((s.loseRegion r).raise (srcRegionOff r 42) 0xFF 0).rehome))
    ∧ (s.up = false ∨ ((s.region r).inService || late) = false → exec (.regionLost region) s = .next s)
    ∧ ((late = true → s.loseRegion r = s.failReload r)
      ∧ (late = false → s.loseRegion r = ((s.regionLoss r).rehome).drained r)
      ∧ (late = false → s.reloads r = false → s.loseRegion r = (s.regionLoss r).rehome))
    ∧ ((s.region r).inService = true → s.reloads r = false →
      let t := s.regionLoss r
      (t.region r).inService = false ∧ (t.region r).draining = false ∧ (t.region r).lastOut = s.now
        ∧ (∀ k, k ≠ r → t.region k = s.region k)
        ∧ (∀ c k, k < classPerRegion c →
            t.cell c (classPerRegion c * r + k) = (s.cell c (classPerRegion c * r + k)).cleared)
        ∧ t.mp = s.mp ∧ t.vlt = s.vlt ∧ t.qm = s.qm ∧ t.flt = s.flt ∧ t.rnd = s.rnd)
    ∧ (s.drainDone r = true → s.reloads r = false → ∃ t, exec (.regionDrainEnd region) s = .next t
      ∧ t.region r = { s.region r with inService := false, draining := false, reloading := false, lastOut := s.now }
      ∧ (∀ k, k ≠ r → t.region k = s.region k) ∧ t.orc.items = s.orc.items
      ∧ t = { s with orc := t.orc, eng := t.eng })
    ∧ (s.drainDone r = true → s.reloads r = true → s.mp.rlStep = 1 → s.mp.rlReset = false → held = false →
      ∃ t, exec (.regionDrainEnd region) s = .next t ∧ t.mp = { s.mp with rlStep := 2 }
        ∧ (t.region r).inService = false ∧ (t.region r).reloading = true
        ∧ (back = false → ∀ k ∈ regionStores r, (t.cluster k).loading = true ∧ (t.cluster k).altValid = false))
    ∧ (s.drainDone r = true → s.reloads r = true → s.mp.rlStep = 1 → s.mp.rlReset = false → held = true →
      ∃ t, exec (.regionDrainEnd region) s = .next t ∧ t.mp.rlBusy = false ∧ (t.region r).inService = false
        ∧ (t.region r).failed = true)
    ∧ (s.drainDone r = true → s.reloads r = true → s.mp.rlStep = 1 → s.mp.rlReset = true → s.rindHolds r = false →
      s.sourceHolds r = false → s.regionDead r = false →
      ∃ t, exec (.regionDrainEnd region) s = .next t ∧ t.mp.rlBusy = false ∧ t.mp.rlStep = 4
        ∧ (t.region r).inService = true ∧ (t.region r).draining = false)
    ∧ (s.drainDone r = false → exec (.regionDrainEnd region) s = .next s)
    ∧ (let past := (s.region r).draining && s.reloads r && s.mp.rlStep == 1 && decide (s.mp.rlStart + 1000 * s.mp.rlLimit ≤ s.now)
      (past = true → exec (.drainLimitExpire region) s = .next (s.loseRegion r))
      ∧ (past = false → exec (.drainLimitExpire region) s = .next s))
    ∧ (∀ ok fails,
      (s.reloadAt r 3 = true → exec (.regionReloadDone region ok fails) s = .next (s.testsEnd r fails))
      ∧ (s.reloadAt r 2 = true → (s.cluster (4 * r)).loading = true → ok = false →
        exec (.regionReloadDone region ok fails) s = .next ((s.failReload r).raise (srcRegionOff r 39) 0xFF 0))
      ∧ (s.reloadAt r 2 = true → (s.cluster (4 * r)).loading = false ∨ ok = true →
        exec (.regionReloadDone region ok fails) s = .next ((s.toTests r).testsEnd r fails))
      ∧ (s.reloadAt r 2 = false → s.reloadAt r 3 = false → exec (.regionReloadDone region ok fails) s = .next s))
    ∧ (let t := s.toTests r
      t.mp.rlStep = 3 ∧ (∀ k, k ≠ r → t.region k = s.region k)
      ∧ (back = false → (∀ k ∈ regionStores r, t.cluster k = (s.cluster k).switched fam s.activeBank.bundle)
        ∧ t.region r = { s.region r with family := fam, version := s.activeBank.bundle, choice := some fam })
      ∧ (back = true → (t.region r).family = (s.cluster (4 * r)).altFamily ∧ (t.region r).version = (s.cluster (4 * r)).altVersion))
    ∧ (s.enginesOut r = false → held = false →
      let t := s.testsEnd r []
      t.region r = { s.region r with inService := true, draining := false, reloading := false, failed := false, quarantine := false }
        ∧ t.mp.rlBusy = false ∧ (s.mp.rlBusy = true → t.mp.rlStep = 4) ∧ ∀ k, k ≠ r → t.region k = s.region k)
    ∧ (((s.failReload r).region r).reloading = false ∧ ((s.failReload r).region r).failed = true
      ∧ (s.failReload r).mp.rlBusy = false ∧ (s.mp.rlBusy = true → (s.failReload r).mp.rlStep = 5))

/-- The control-store code (R143): a word with the check byte of R143 is clean, every flip of one of its 72 bits is corrected,
one of a data bit is put right, and every flip of two is detected and not corrected. -/
def Obligations.ControlStoreCodeCorrects : Prop :=
  ∀ d : BitVec 64,
    let one := fun (j : Nat) => (1 : BitVec 64) <<< j
    let chk := fun (i : Nat) => (1 : Byte) <<< i
    eccFetch d (eccCheck d) = .clean
    ∧ (∀ j, j < 64 → eccFix 64 (d ^^^ one j) (eccCheck d) = d)
    ∧ (∀ j, j < 64 → eccFetch (d ^^^ one j) (eccCheck d) = .corrected)
    ∧ (∀ i, i < 8 → eccFetch d (eccCheck d ^^^ chk i) = .corrected)
    ∧ (∀ j k, j < k → k < 64 → eccFetch (d ^^^ one j ^^^ one k) (eccCheck d) = .bad)
    ∧ (∀ j i, j < 64 → i < 8 → eccFetch (d ^^^ one j) (eccCheck d ^^^ chk i) = .bad)
    ∧ (∀ i k, i < k → k < 8 → eccFetch d (eccCheck d ^^^ chk i ^^^ chk k) = .bad)

/-- Control-store patrol and HBM patrol count what they correct and raise its sources (R143, R149, R203, R227, R229, R392, R393): a
control-store pass finds what upsets have flipped since the last, puts right and counts what it can, and leaves a word that it
cannot, whose units are taken out of service; a pass that meets no error changes the patrol's own counts alone. -/
def Obligations.PatrolsCountErrors : Prop :=
  ∀ s : State,
    (∀ (store : Fin 20) (upsets : List (Nat × BitVec 288)),
      let k := store.val
      let r := if k < 16 then k / 4 else k - 16
      let src := srcRegionOff r 38
      let flips := (s.cluster k).upset upsets
      let outs := fun (e : Nat × BitVec 288) => flipOuts (decide (16 ≤ k)) e.2
      let left := flips.filter (fun e => (outs e).contains .bad)
      let n := ((flips.flatMap outs).filter (· == .corrected)).length
      let u := (s.setCluster k { s.cluster k with flips := left }).countFixed k n
      (s.up = true → s.mp.katDone = true →
        (left = [] → exec (.controlStorePatrol store upsets) s = .next u)
        ∧ (∀ e l, left = e :: l →
          let v := left.foldl (fun a x => a.takeUnits src (storeUnits k x.1).1 (storeUnits k x.1).2) u
          exec (.controlStorePatrol store upsets) s = .next
            (((v.raise src ((storeUnits k e.1).2.headD 0xFF) 0).checkDead r).rehome)
          ∧ ∀ x ∈ left, ∀ w ∈ (storeUnits k x.1).2, (v.cell (storeUnits k x.1).1 w).inService = false))
      ∧ (s.up = false ∨ s.mp.katDone = false → exec (.controlStorePatrol store upsets) s = .next s)
      ∧ (∀ m, s.countFixed k 0 = s ∧ (0 < m → k < 16 → s.countFixed k m
            = (s.setCluster k { s.cluster k with corr := satAdd (s.cluster k).corr m }).raise (srcRegionOff r (4 + k % 4)) 0xFF 0)
          ∧ (0 < m → 16 ≤ k → s.countFixed k m = ({ s with eng := { s.eng with
              medCorr := satAdd s.eng.medCorr m } }).raise (srcRegionOff r 28) 0xFF 0)))
    ∧ (∀ corr uncorr : List (Fin 64), s.up = true → s.hbm.trained = true → s.pwr.state < 2 → s.hbm.lpbkDepth = 0 →
      exec (.hbmPatrol corr uncorr) s = .next (uncorr.foldl (fun a p => a.raise (12 + p.val / 32) p.val 0)
        (corr.foldl (fun a p => a.raise (10 + p.val / 32) p.val 0) { s with hbm := { s.hbm with
          patrols := s.hbm.patrols + 1, corr := satAdd s.hbm.corr corr.length
          uncorr := satAdd s.hbm.uncorr uncorr.length } })))
    ∧ (∀ corr uncorr, s.up = false ∨ s.hbm.trained = false ∨ 2 ≤ s.pwr.state ∨ s.hbm.lpbkDepth ≠ 0 →
      exec (.hbmPatrol corr uncorr) s = .next s)

/-! ## Entropy -/

/-- Zest and blinding generators (R134, R135, R225): 1 ms after its last reseed a generator reseeds from 48 new bytes while the DRBG
serves, and its limit ends; a request that is not served stays pending; 10 ms without a reseed put it past its limit, counted once
and raised. The RNG window and the raw tap (R324 to R326, R329): a window with room for half is filled to its 64 bytes with
free values; the tap opens in MAKER, INTEGRATOR or RETURNED while no function has READY set, and closing it runs the start-up
anew. -/
def Obligations.GeneratorsAndWindows : Prop :=
  (∀ (s : State) (medlar : Bool) (gen : Fin 16),
      let k := genOf medlar gen.val
      let reseeds := s.up && (s.gen k).seeded && decide ((s.gen k).last + 1000 ≤ s.now)
      let ends := s.up && (s.gen k).seeded && !(s.gen k).pastLimit && decide ((s.gen k).last + 10000 ≤ s.now)
      let t := s.reseedGen medlar gen.val
      (reseeds = true → s.drbgServes = true →
        exec (.zestReseed medlar gen) s = .next t
        ∧ t.gen k = { s.gen k with pastLimit := false, failing := false, pending := false, blocks := 0, since := s.now
                                   last := s.now, seed := s.free, reseeds := (s.gen k).reseeds + 1 }
        ∧ (∀ j, j ≠ k → t.gen j = s.gen j) ∧ t = { s with eng := t.eng, flt := t.flt, free := s.free + 48 })
      ∧ (reseeds = true → s.drbgServes = false →
        exec (.zestReseed medlar gen) s = .next (s.setGen k { s.gen k with pending := true, failing := true }))
      ∧ (reseeds = false → exec (.zestReseed medlar gen) s = .next s)
      ∧ (ends = false → exec (.zestLimit medlar gen) s = .next s)
      ∧ (ends = true → ∃ u : State,
        exec (.zestLimit medlar gen) s = .next ((u.raiseB {} (genSrc medlar gen.val) 0xFF 0 true).holdForEntropy)
        ∧ u = { s with eng := u.eng } ∧ u.gen k = { s.gen k with pastLimit := true, hits := satSucc (s.gen k).hits }
        ∧ u.eng.medHits = if medlar then satSucc s.eng.medHits else s.eng.medHits))
  ∧ (∀ s : State,
      (∀ fn : Fin 1024,
        let fills := s.rngFills fn.val && !s.rng.demand && decide ((s.fn fn.val).rngw.buf.length ≤ 32)
        (fills = true → ∃ t, exec (.rngBufferRefill fn) s = .next t
          ∧ (t.fn fn.val).rngw.buf.length = 64
          ∧ (t.fn fn.val).rngw.buf.take (s.fn fn.val).rngw.buf.length = (s.fn fn.val).rngw.buf
          ∧ (∀ g, g ≠ fn.val → t.fn g = s.fn g) ∧ t = { s with fns := t.fns, free := t.free })
        ∧ (fills = false → exec (.rngBufferRefill fn) s = .next s))
      ∧ (∀ v : Word, s.bar4Full = true →
        (v.getLsbD 0 = true → s.lcState ∈ [1, 2, 4] → s.noneReady = true → exec (.rngRawCtrlWrite v) s = .next
          (({ s with rng := { s.rng with rawSrc := v.extractLsb' 2 2, rawEn := true } }).refresh))
        ∧ (v.getLsbD 0 = true → s.lcState ∉ [1, 2, 4] ∨ s.noneReady = false → exec (.rngRawCtrlWrite v) s = .next s)
        ∧ (v.getLsbD 0 = false → s.rng.rawEn = true → exec (.rngRawCtrlWrite v) s = .next
          (({ s with rng := { s.rng with
              rawSrc := v.extractLsb' 2 2, rawEn := false, ready := false, drbgFailed := false, pool := 0, demand := false
              srcs := s.rng.srcs.map Src.rerun } }).refresh))
        ∧ (v.getLsbD 0 = false → s.rng.rawEn = false → exec (.rngRawCtrlWrite v) s = .next
          { s with rng := { s.rng with rawSrc := v.extractLsb' 2 2 } })))

/-- The central service (R315 to R318, R320 to R323, R330): a failed test marks source and DRBG failed, empties pool and
RNG buffers, and after 8 failed start-up runs the source is DEAD; a pass starts the count anew; a conditioned block enters the
pool of 4, and a reseed that waits takes it; a reseed that is due takes a block or waits for one; a marked DRBG recovers when all
sources pass and a block is ready, and one that the raw tap stopped is instantiated and seeds the generators. The import keys that
could not be made meanwhile are made then (assumption 43). -/
def Obligations.EntropyIsTestedAndReseeded : Prop :=
  ∀ s : State,
    (∀ (src test : Fin 3),
      let x := s.rng.srcs.getD src.val {}
      let y := x.failed_ test.val
      ((s.rngRuns && x.canFail test.val) = true → ∃ u : State,
        exec (.healthTestFail src test) s = .next
          (let a := (u.logWord 0x050 (src.val + test.val * 256 + y.runs * 65536) 0).raise 20 src.val test.val
           (if y.dead then a.raise 21 src.val 0 else a).holdForEntropy.refresh)
        ∧ u.rng = { s.rng with drbgFailed := true, pool := 0, demand := false, srcs := s.rng.srcs.set src.val y }
        ∧ u = { s with rng := u.rng, fns := u.fns } ∧ ∀ f, (u.fn f).rngw.buf = [])
      ∧ ((s.rngRuns && x.canFail test.val) = false → exec (.healthTestFail src test) s = .next s)
      ∧ ((s.rngRuns && x.startup) = true → exec (.sourceStartupPass src) s = .next
        (s.setSource src.val { x with ok := true, failed := false, startup := false, runs := 0 }))
      ∧ ((s.rngRuns && x.startup) = false → exec (.sourceStartupPass src) s = .next s))
    ∧ (∀ (x : Src) (test : Nat), (x.failed_ test).ok = false ∧ (x.failed_ test).failed = true
      ∧ (x.failed_ test).fails = satSucc x.fails
      ∧ (x.failed_ test).runs = (if test = 2 then x.runs + 1 else x.runs)
      ∧ ((x.failed_ test).dead = true ↔ 8 ≤ (x.failed_ test).runs) ∧ (x.failed_ test).startup = !(x.failed_ test).dead)
    ∧ (let block := s.rngRuns && s.rng.srcs.all (·.ok) && !s.rng.rawEn && decide (s.rng.pool < 4)
      let t := { s with rng := { s.rng with pool := s.rng.pool + 1 } }
      (block = true → exec .conditionedBlockReady s = .next (if s.drbgLive && s.rng.demand then t.reseeded else t))
      ∧ (block = false → exec .conditionedBlockReady s = .next s))
    ∧ (s.drbgLive = true → ∀ c, (c = Instr.drbgRequestLimit
        ∨ (c = .drbgReseedInterval ∧ s.rng.last + 100 ≤ s.now)
        ∨ (∃ v, c = .rngCtrlReseed v ∧ v.getLsbD 0 = true ∧ s.bar4Full = true ∧ s.rng.demand = false)) →
      (0 < s.rng.pool → exec c s = .next s.reseeded
        ∧ s.reseeded.rng = { s.rng with pool := s.rng.pool - 1, demand := false, last := s.now
                                        reseeds := s.rng.reseeds + 1 })
      ∧ (s.rng.pool = 0 → exec c s = .next { s with rng := { s.rng with demand := true } }))
    ∧ (s.drbgLive = false → exec .drbgRequestLimit s = .next s)
    ∧ (s.drbgLive = false ∨ s.now < s.rng.last + 100 → exec .drbgReseedInterval s = .next s)
    ∧ (∀ v : Word, s.bar4Writes = true → v.getLsbD 0 = false ∨ s.drbgLive = false ∨ s.rng.demand = true →
        exec (.rngCtrlReseed v) s = .next s)
    ∧ (let ready := s.rngRuns && s.rng.srcs.all (·.ok) && decide (0 < s.rng.pool) && !s.rng.rawEn
      (ready = true → s.rng.ready = true → s.rng.drbgFailed = true → exec .drbgRecovery s = .next
        (({ s with rng := { s.rng with drbgFailed := false } }).reseeded.lateKeys.refresh))
      ∧ (ready = true → s.rng.ready = false → ∃ u : State, exec .drbgRecovery s = .next u.lateKeys.refresh
        ∧ u.rng = { s.rng with ready := true, drbgFailed := false, pool := s.rng.pool - 1, demand := false, last := s.now
                               perso := s.nv.perso }
        ∧ ∀ k, k < 32 → (u.gen k).seeded = true ∧ (u.gen k).pastLimit = false ∧ (u.gen k).last = s.now
            ∧ (u.gen k).reseeds = (s.gen k).reseeds)
      ∧ (ready = false ∨ (s.rng.ready = true ∧ s.rng.drbgFailed = false) → exec .drbgRecovery s = .next s))


/-! ## Rind -/

/-- TAMP_ALERT_N (R382) is asserted exactly while an unfused group at NOTIFY or above has its alarm bit set, HOLD is set, or
the always-on latch holds an entry; the loss of the main rails, of the standby supply, and PERST_N leave it as it is. -/
def Obligations.TampAlert : Prop :=
  ∀ s : State,
    (s.tampAlert = true ↔ (∃ g, g < 30 ∧ s.rnd.alarm.getLsbD g = true ∧ s.nv.fuses.getLsbD g = false ∧ 1 ≤ s.grpAction g)
      ∨ s.rnd.hold = true ∨ s.rnd.latch ≠ [])
    ∧ (∀ c ∈ [Instr.mainRailsOff, .standbySupplyLoss, .standbySupplyReturn, .brownOut, .perstNAssert],
        ∃ t, exec c s = .next t ∧ t.tampAlert = s.tampAlert)

/-- Rind (R371 to R380, R383, R384, R387, R401): cells are numbered by group; an event enters its cell's window, a level condition
is present from then on, and the event that completes K alarms the group; without main power Rind answers alone, with a latch entry, HOLD from HALT_SECRET on and the MWK cleared
from ZEROISE on; with it LOG only records, and higher levels clear what R376 names. A stimulus that does not fire alarms its
group; a set alarm bit clears unless its condition is present, which ends when no cell counts K. -/
def Obligations.RindAnswersTampering : Prop :=
  ∀ (s : State) (group : Fin 30) (cell : Fin 8) (b : BootIn),
    let g := group.val
    let bit := BitVec.ofNat 30 (2 ^ g)
    let e := (s.addEvent g cell.val).levelSeen g
    let hits := (e.cellEvents g cell.val).length
    let reached := decide ((s.cellEvents g cell.val).length < s.grpK g) && decide (s.grpK g ≤ hits)
    (groupCells g ≤ cell.val → exec (.rindSensorEvent group cell b) s = .fault .noSuchUnit
      ∧ ∀ fired, exec (.rindStimulusCell group cell fired b) s = .fault .noSuchUnit)
    ∧ (cell.val < groupCells g →
      (s.groupOn g = false → exec (.rindSensorEvent group cell b) s = .next s)
      ∧ (s.groupOn g = true → reached = false → exec (.rindSensorEvent group cell b) s = .next e)
      ∧ (s.groupOn g = true → reached = true → exec (.rindSensorEvent group cell b) s = .next (e.rindAlarm g hits true b))
      ∧ exec (.rindStimulusCell group cell true b) s = .next s
      ∧ (s.stimOn g = true → exec (.rindStimulusCell group cell false b) s = .next (s.stimFailed g b))
      ∧ (s.stimOn g = false → exec (.rindStimulusCell group cell false b) s = .next s))
    ∧ (s.bar4Writes = true → (∀ l, exec (.runAll l b) s = .next
          (l.foldl (fun a x => if a.stimOn x.val then a.stimFailed x.val b else a) s))
        ∧ exec (.runAll [] b) s = .next s)
    ∧ (e.cellEvents g cell.val = s.cellEvents g cell.val ++ (if s.inWindow g s.rnd.us then [s.rnd.us] else [])
      ∧ e.rnd.present = (if levelGroup g then s.rnd.present ||| bit else s.rnd.present)
      ∧ e = { s with rnd := { s.rnd with events := e.rnd.events, present := e.rnd.present } })
    ∧ (∀ n, s.rnd.supply ≠ 0 →
      let t := s.rindAlarm g n true b
      t.rnd.alarm = s.rnd.alarm ||| bit ∧ t.rnd.hold = (s.rnd.hold || decide (3 ≤ s.grpAction g))
        ∧ t.nv = { s.nv with mwk := if 4 ≤ s.grpAction g then none else s.nv.mwk }
        ∧ (s.rnd.latch.length < 16 → t.rnd.latch = s.rnd.latch ++ [{
            group := g, action := s.grpAction g, supply := max 1 s.rnd.supply, count := min n 0xFFFF,
            sec := (s.rnd.us - s.rnd.lostAt) / 1000000 }] ∧ t.rnd.latchOvf = s.rnd.latchOvf)
        ∧ (16 ≤ s.rnd.latch.length → t.rnd.latch = s.rnd.latch ∧ t.rnd.latchOvf = satSucc s.rnd.latchOvf)
        ∧ t = { s with rnd := t.rnd, nv := t.nv })
    ∧ (∀ n, s.up = true → s.rnd.supply = 0 → s.grpAction g = 0 →
      let t := s.rindAlarm g n true b
      t.rnd = { s.rnd with alarm := s.rnd.alarm ||| bit, present := s.rnd.present ||| bit } ∧ t = { s with
        rnd := t.rnd, log := t.log })
    ∧ (s.rnd.level < 3 → (s.rindCarry g 3).vlt.keysHalted = true ∧ (s.rindCarry g 3).vlt.vek = false
        ∧ 3 ≤ (s.rindCarry g 3).rnd.level)
    ∧ (∀ l, l = 4 ∨ l = 5 → (s.rindCarry g l).nv.mwk = none ∧ (s.rindCarry g l).vlt.ksKey = false
        ∧ (s.rindCarry g l).hbm.keyIn = none ∧ (s.rindCarry g l).vlt.keysHalted = true ∧ l ≤ (s.rindCarry g l).rnd.level
        ∧ (l = 5 → (s.rindCarry g l).rnd.hold = true))
    ∧ (∀ v : Word, s.bar4Writes = true → exec (.rndAlarmWrite v) s = .next { s with rnd := { s.rnd with
        alarm := s.rnd.alarm &&& ~~~(v.setWidth 30 &&& ~~~s.presentNow) } })
    ∧ (s.pwr.vaon = true → s.rnd.present.getLsbD g = true → s.atK g = false → ∃ t, exec (.rindConditionEnd group) s = .next t
      ∧ t.rnd = { s.rnd with present := s.rnd.present &&& ~~~bit } ∧ t = { s with rnd := t.rnd, flt := t.flt })
    ∧ (s.pwr.vaon = false ∨ s.rnd.present.getLsbD g = false ∨ s.atK g = true → exec (.rindConditionEnd group) s = .next s)

/-! ## The fault collector -/

/-- The fault collector (R390 to R393, R395 to R400, R402, R406): an event of a chip source is recorded and carried out, one of the
management processor restarts it, one of the link brings it down, and one of a region does what R393 names; a grace
timer that runs out escalates the source one step, up to its cap; an acknowledgement stops the timer; a quiet source leaves
ACTIVE, or becomes STUCK where its exits pass the limit; VALID clears the first-fault capture. -/
def Obligations.FaultsAreHandled : Prop :=
  ∀ (s : State) (src : Fin 256) (b : BootIn),
    let n := src.val
    let x := s.src n
    (∀ unit detail present hit,
      let c := exec (.faultEvent src unit detail ⟨present, hit⟩ b) s
      let heard := s.up && !s.scrapped && !srcReserved n && s.flt.cfgLoaded
      (heard = false → c = .next s)
      ∧ (heard = true →
        (n < 64 → n ∉ [2, 24, 25, 26, 28] →
          c = .next (((s.eventBreaks n hit).countError n).raiseB b n unit.toNat detail.toNat present))
        ∧ (n = 24 ∨ n = 25 → c = .next (s.fwFault n 4 true b)) ∧ (n = 26 → c = .next (s.fwFault n 3 true b))
        ∧ (n = 28 → ∃ cause, c = .next ((s.fwFault n cause false b).draw 1))
        ∧ (n = 2 → c = .next ((s.linkDrop.logWord 0x070 1 0).raiseB b n unit.toNat detail.toNat present))
        ∧ (64 ≤ n → c = .next (s.regionEvent n unit.toNat detail.toNat present b))))
    ∧ (n < 64 → s.countError n = { s with hbm := (s.countError n).hbm })
    ∧ (∀ hit, s.eventBreaks n hit = { s with vlt := (s.eventBreaks n hit).vlt, hbm := (s.eventBreaks n hit).hbm })
    ∧ (let runs := s.up && decide (x.grace ≠ 0) && decide (x.graceAt ≤ s.now) && !x.acked
      (runs = true → exec (.graceExpire src b) s = .next (s.escalate n b))
      ∧ (runs = false → exec (.graceExpire src b) s = .next s))
    ∧ (∃ t : State, s.escalate n b = t.carryB b n (min (nextLevel n x.levelNow) (s.srcCap n)) s.rnd.level
        ∧ (t.src n).levelNow = min (nextLevel n x.levelNow) (s.srcCap n) ∧ (t.src n).state = x.state
        ∧ ((t.src n).grace = 0 ↔ s.srcCap n ≤ (t.src n).levelNow) ∧ (∀ m, m ≠ n → t.src m = s.src m)
        ∧ t.flt.cause = s.flt.cause ∧ t.rnd = s.rnd ∧ t.orc = s.orc ∧ t.vlt = s.vlt)
    ∧ (∀ v : Word, s.bar4Writes = true → v.toNat % 256 = n →
      (srcReserved n = false → exec (.fltAck v) s = .next (s.setSrc n { x with acked := true, grace := 0, graceAt := 0 })
        ∧ (s.setSrc n { x with acked := true, grace := 0, graceAt := 0 }).src n
          = { x with acked := true, grace := 0, graceAt := 0 })
      ∧ (srcReserved n = true → exec (.fltAck v) s = .next s))
    ∧ (let quiet := s.up && x.state == 1 && !x.present && decide (x.quietAt + 1000 * s.flt.quiet ≤ s.now)
      (quiet = true → (s.recentExits n).length < s.flt.recCount → exec (.quietExpire src) s = .next (s.quietExit n)
        ∧ ((s.quietExit n).src n).state = 0 ∧ ((s.quietExit n).src n).recov = satSucc x.recov
        ∧ ((s.quietExit n).src n).out = [] ∧ ((s.quietExit n).src n).levelNow = x.levelNow
        ∧ (s.quietExit n).flt.recovTotal = satSucc s.flt.recovTotal ∧ (s.quietExit n).flt.cause = s.flt.cause
        ∧ (s.quietExit n).rnd = s.rnd)
      ∧ (quiet = true → s.flt.recCount ≤ (s.recentExits n).length →
        exec (.quietExpire src) s = .next (s.setSrc n { x with state := 2 }))
      ∧ (quiet = false → exec (.quietExpire src) s = .next s))
    ∧ (∀ v : Word, s.bar4Writes = true →
      (v.getLsbD 31 = true → exec (.fltFirstSrcClear v) s = .next { s with flt := { s.flt with
        firstValid := false, firstSelf := false, firstEsc := false, firstSev := 0, firstUnit := 0, firstSrc := 0
        firstTick := 0 } })
      ∧ (v.getLsbD 31 = false → exec (.fltFirstSrcClear v) s = .next s))

/-! ## Power -/

/-- Power states, temperature, voltage and clocks (R105, R133, R134, R198, R202, R215, R401, R423 to R429, R436, R438, R440): an
idle device enters the next state its target permits, and loses what R423 says; an exit begins by what R427 lets begin it, and ends
in state 0 with an LTR message and the generators reseeded; throttle levels rise at 100 °C and fall at 98 °C; the supply follows the
monitors within 700 to 800 mV; a lost lock is raised. -/
def Obligations.PowerFollowsItsRules : Prop :=
  ∀ s : State, s.tablesWf →
    let nx := if s.pwr.state = 0 then 2 else s.pwr.state + 1
    let enters := s.up && !s.scrapped && !s.pwr.exiting && decide (nx ≤ 4) && decide (nx ≤ s.target) && s.idle
      && decide (s.pwr.idleSince + s.pwr.idleTime nx ≤ s.now)
    (enters = true → ∃ t, exec .powerStateEnter s = .next t ∧ t.pwr.state = nx
        ∧ t.pwr.enteredAt = s.now ∧ t.qm = s.qm ∧ t.vlt.slots = s.vlt.slots ∧ t.lc = s.lc ∧ t.log = s.log
        ∧ (nx = 2 → t = { s with pwr := t.pwr, outbox := t.outbox, eng := t.eng } ∧ ∀ k, (t.gen k).last = (s.gen k).last)
        ∧ (nx = 3 → (∀ e ∈ t.pulp.entries, e.onChip = false) ∧ ∀ n, (t.cell .pip n).core.rows = [])
        ∧ (nx = 4 → t.pulp.entries = [] ∧ t.hbm.keyIn = none ∧ t.hbm.keySeal = none ∧ t.hbm.keyAuth = none
            ∧ t.hbm.fillDone = false ∧ t.vlt.blobs = [] ∧ t.vlt.vek = false
            ∧ (∀ f, (t.fn f).mb.buf = [] ∧ (t.fn f).rngw.buf = []) ∧ t.rnd.supply = 1))
    ∧ (enters = false → exec .powerStateEnter s = .next s)
    ∧ (∀ cause,
      let wakes := s.up && (s.pwr.state == 2 || s.pwr.state == 3) && s.wakes cause
      (wakes = true → exec (.powerWake cause) s = .next { s with pwr := { s.pwr with exiting := true } })
      ∧ (wakes = false → exec (.powerWake cause) s = .next s))
    ∧ (∀ us b,
      (s.up = true → s.pwr.state = 4 → s.pwr.exiting = false → ∃ t, exec (.p4Wake us b) s = .next t ∧ t.pwr.exiting = true
        ∧ t.orc.tick = s.orc.tick + us ∧ t.pwr.resP4 = s.pwr.resP4 + us ∧ t.rnd.supply = 0
        ∧ t.hbm.fillDone = s.nv.trim.isSome ∧ t.hbm.trained = s.nv.trim.isSome)
      ∧ (s.up = false ∨ s.pwr.state ≠ 4 ∨ s.pwr.exiting = true → exec (.p4Wake us b) s = .next s))
    ∧ (s.up = true → s.pwr.exiting = true → ∃ t, exec .powerExitDone s = .next t ∧ t.pwr.state = 0 ∧ t.pwr.exiting = false
      ∧ t.pwr.idleSince = s.now ∧ t.pwr.enteredAt = s.now
      ∧ t = { s with pwr := t.pwr, outbox := t.outbox, log := t.log, eng := t.eng, flt := t.flt, free := t.free }
      ∧ (s.pwr.state = 2 → t.pwr.resP2 = s.pwr.resP2 + (s.now - s.pwr.enteredAt))
      ∧ (s.pwr.state = 3 → t.pwr.resP3 = s.pwr.resP3 + (s.now - s.pwr.enteredAt))
      ∧ (s.pwr.state ≠ 4 → s.drbgServes = true → ∀ k, k < 32 → (s.gen k).seeded = true → (t.gen k).last = s.now
          ∧ (t.gen k).reseeds = (s.gen k).reseeds + 1)
      ∧ (s.pwr.state ≠ 4 → s.drbgServes = false → ∀ k, k < 32 → (s.gen k).seeded = true → (t.gen k).pending = true))
    ∧ (s.up = false ∨ s.pwr.exiting = false → exec .powerExitDone s = .next s)
    ∧ (s.tol = s.pwr.lastTol → s.noteTol = s)
    ∧ (∀ (region : Fin 4) (own spine : Byte),
      let r := region.val
      let x := s.region r
      let rises := s.sensing && decide (100 ≤ hotter own spine) && decide (x.thermal < 4)
      let falls := s.sensing && decide (hotter own spine ≤ 98) && decide (0 < x.thermal)
      let up := (s.sense r own spine).setRegion r { x with thermal := x.thermal + 1 }
      let own1 := if x.thermal = 0 then up.raiseB {} (srcRegionOff r 44) 0xFF 0 true else up
      let down := (s.sense r own spine).setRegion r { x with thermal := x.thermal - 1 }
      let own0 := if x.thermal = 1 then down.presentEnds (srcRegionOff r 44) else down
      (rises = true → exec (.throttleRise region own spine) s
          = .next (if s.throttled then own1 else own1.raiseB {} 32 0xFF 0 true))
      ∧ (rises = false → exec (.throttleRise region own spine) s = .next s)
      ∧ (falls = true → exec (.throttleFall region own spine) s = .next (if own0.throttled then own0 else own0.presentEnds 32))
      ∧ (falls = false → exec (.throttleFall region own spine) s = .next s)
      ∧ (up.region r).thermal = x.thermal + 1 ∧ (down.region r).thermal = x.thermal - 1)
    ∧ (∀ up want,
      (s.sensing = true → (want && up && s.pwr.avs == 800) = false →
        let v := if !want then s.pwr.avs else if up then s.pwr.avs + 5 else max 700 (s.pwr.avs - 5)
        exec (.avsSample up want) s = .next (({ s with pwr := { s.pwr with avs := v, avsLimit := false } }).presentEnds 35))
      ∧ (s.sensing = true → (want && up && s.pwr.avs == 800) = true →
        (s.pwr.avsLimit = false → exec (.avsSample up want) s = .next
          (({ s with pwr := { s.pwr with avsLimit := true } }).raiseB {} 35 0xFF 0 true))
        ∧ (s.pwr.avsLimit = true → exec (.avsSample up want) s = .next s))
      ∧ (s.sensing = false → exec (.avsSample up want) s = .next s))
    ∧ (∀ e ∈ [(Pll.root, s.pwr.rootLock, { s.pwr with rootLock := false }), (.hbm0, s.pwr.hbm0Lock, { s.pwr with hbm0Lock := false }),
        (.hbm1, s.pwr.hbm1Lock, { s.pwr with hbm1Lock := false })],
      ((s.sensing && e.2.1) = true → exec (.pllLockLoss e.1) s = .next (({ s with pwr := e.2.2 }).raise 34 0xFF 0))
      ∧ ((s.sensing && e.2.1) = false → exec (.pllLockLoss e.1) s = .next s))


/-! ## Pritan -/

/-- Frames that arrive (R33, R41, R448, R450 to R456; assumption 33): one that fails its checks is counted and raises GRP_MIRROR. A
good one advances the sequence and writes CONSUMED; of a member that is heard it is acted on with its last fragment: a COMMIT is
judged by the table of R454 and answered, an ACK counts toward its round, RESYNC_REQ queues the slots, RESYNC_DATA puts slots until
END, LEAVE drops the member. One that is not heard is counted as discarded. -/
def Obligations.FramesAreTaken : Prop :=
  ∀ (s : State) (f : Frame),
    let i := f.sender.val
    let p := s.peer i
    let h := s.inView f
    let bears := fun (c : Instr) => (∃ k, c = .commitFrame f k ∧ f.typ = 1) ∨ (∃ k, c = .ackFrame f k ∧ f.typ = 2)
      ∨ (c = .heartbeatFrame f ∧ f.typ = 3) ∨ (c = .resyncReqFrame f ∧ f.typ = 4)
      ∨ (∃ k l, c = .resyncDataFrame f k l ∧ f.typ = 5) ∨ (c = .leaveFrame f ∧ f.typ = 6)
    (∀ c, bears c →
      (s.windowOpen = false → exec c s = .next s)
      ∧ (s.windowOpen = true → s.frameOk f = false →
        exec c s = .next ((s.setGrp { s.grp with frameRej := satSucc s.grp.frameRej }).raise 37 0xFF 0))
      ∧ (s.windowOpen = true → s.frameOk f = true → s.hears f = false → exec c s = .next ((s.frameCame f).setGrp
          { (s.frameCame f).grp with frameRej := satSucc s.grp.frameRej }))
      ∧ (s.windowOpen = true → s.frameOk f = true → s.hears f = true → f.fragIdx + 1 ≠ f.fragCnt → exec c s = .next h))
    ∧ ((s.frameCame f).peer i = { p with rx := f.fseq } ∧ (∀ j, j ≠ i → (s.frameCame f).peer j = s.peer j)
      ∧ (s.frameCame f).outbox = s.outbox ++ (if (s.fn 0).port.bme = false then []
          else if p.addr ≠ 0 then
            [.bytes 0 (p.addr + BitVec.ofNat 64 (1024 * s.grp.index + 960)) (leBytes 8 f.fseq.toNat)]
          else if 0 < s.grp.ringLen then
            [.relay 0 s.grp.ringAddr s.grp.ringPos i (1024 * s.grp.index + 960) 8 f.fseq] else []))
    ∧ ((p.inService = true ∨ p.rx ≠ 0 →
        h = (s.frameCame f).setPeer i { p with rx := f.fseq, last := s.now, inService := p.inService || p.rx == 0 })
      ∧ (p.inService = false → p.rx = 0 → ∃ u : State, h = u.viewChanged
        ∧ u = (s.frameCame f).setPeer i { p with rx := f.fseq, last := s.now, inService := true }))
    ∧ (s.windowOpen = true → s.frameOk f = true → s.hears f = true → f.fragIdx + 1 = f.fragCnt →
      (f.typ = 3 → exec (.heartbeatFrame f) s = .next h)
      ∧ (f.typ = 6 → exec (.leaveFrame f) s = .next (h.dropPeer i))
      ∧ (f.typ = 4 → let u := h.setPeer i { h.peer i with resync := true, outq := [] }
          exec (.resyncReqFrame f) s = .next (u.queueResync i f.mseq u.resyncSlots))
      ∧ (∀ c : SlotRec, f.typ = 1 →
        let k := h.slot c.tenant c.slot
        let mine := h.mirrors c.tenant && decide (c.slot < (h.fn c.tenant).ten.slots) && c.slot != 0
        let fits := h.commits && (c.action == 3 || h.heapFits (if c.action = 4 then k.len else c.keyLen))
        (mine = false → exec (.commitFrame f c) s = .next (h.ack f c 2))
        ∧ (mine = true →
          (c.counter.toNat = k.counter.toNat + 1 → fits = true → exec (.commitFrame f c) s = .next ((h.applyCommit c).ack f c 0))
          ∧ (c.counter.toNat = k.counter.toNat + 1 → fits = false → exec (.commitFrame f c) s = .next (h.ack f c 2))
          ∧ (c.counter = k.counter → c.hash = k.hash → exec (.commitFrame f c) s = .next (h.ack f c 1))
          ∧ (k.counter.toNat + 1 < c.counter.toNat →
            exec (.commitFrame f c) s = .next (if (h.ack f c 2).grp.resyncing = none then (h.ack f c 2).startResync i
              else h.ack f c 2))
          ∧ (c.counter.toNat ≤ k.counter.toNat → ¬(c.counter = k.counter ∧ c.hash = k.hash) →
            exec (.commitFrame f c) s = .next ((h.ack f c 3).conflicts))))
      ∧ (f.typ = 2 → exec (.ackFrame f 3) s = .next h.conflicts ∧ exec (.ackFrame f 2) s = .next h
        ∧ ∀ r ∈ [(0 : Fin 4), 1],
          (h.grp.pending.find? (fun w => w.mseq == f.mseq) = none → exec (.ackFrame f r) s = .next h)
          ∧ ∀ w, h.grp.pending.find? (fun w => w.mseq == f.mseq) = some w → ∃ u : State,
            u.grp.pending = h.grp.pending.map (fun x => if x.mseq = w.mseq then { w with acks := w.acks + 1 } else x)
            ∧ u = { h with grp := { h.grp with pending := u.grp.pending } }
            ∧ exec (.ackFrame f r) s = .next (if h.grp.quorum ≤ w.acks + 1 then u.endRound { w with acks := w.acks + 1 } .ok
                else u))
      ∧ (f.typ = 5 → ∀ l last,
        let t := h.takeSlots l
        (h.grp.resyncing ≠ some i → exec (.resyncDataFrame f l last) s = .next h)
        ∧ (h.grp.resyncing = some i →
          (last = false ∨ t.grp.resyncing = none → exec (.resyncDataFrame f l last) s = .next t)
          ∧ (last = true → t.grp.resyncing ≠ none → ∃ u : State, exec (.resyncDataFrame f l last) s = .next (u.endResync .ok [])
            ∧ ((t.peer i).inService = true → u = t.dropUnnamed.setPeer i { t.peer i with inService := true })))))
    ∧ (∀ c l, (s.slotFits c = true → s.takeSlots (c :: l) = (s.putSlotRec c).takeSlots l)
        ∧ (s.slotFits c = false → s.takeSlots (c :: l) = s.endResync .stateRefused (leBytes 8 0x05)))

/-- Frames that leave, and the timers of a group (R39, R450 to R453, R455; assumption 33): while the link is up the next frame goes
to a peer that has consumed the last, with the next FSEQ, through the peer's window or the relay ring; a heartbeat is queued every
1 ms; a member that is silent for 10 ms leaves the view; a round that waits MIRROR_TO fails. -/
def Obligations.FramesAreSent : Prop :=
  ∀ (s : State) (peer : Fin 64),
    let i := peer.val
    let p := s.peer i
    let goes := s.maySend && s.isMember i && i != s.grp.index && s.hasPath i && s.consumed i == p.tx
    (goes = true →
      (p.outq = [] → exec (.frameSend peer) s = .next s)
      ∧ ∀ typ mseq tenant slot result rest, p.outq = (typ, mseq, tenant, slot, result) :: rest → ∃ t : State,
          exec (.frameSend peer) s = .next (if typ = 5 ∧ result = 1 then t.resyncSent i else t)
          ∧ t.peer i = { p with outq := rest, tx := p.tx + 1 } ∧ (∀ j, j ≠ i → t.peer j = s.peer j)
          ∧ t = { s with grp := { s.grp with peers := t.grp.peers, ringPos := t.grp.ringPos }, outbox := t.outbox }
          ∧ (p.addr ≠ 0 → t.grp.ringPos = s.grp.ringPos ∧ t.outbox = s.outbox ++
            [.frame 0 (p.addr + BitVec.ofNat 64 (1024 * s.grp.index)) typ s.grp.index i (p.tx + 1) mseq tenant slot result])
          ∧ (p.addr = 0 → t.grp.ringPos = (s.grp.ringPos + 1) % s.grp.ringLen ∧ t.outbox = s.outbox ++
            [.relay 0 s.grp.ringAddr s.grp.ringPos i (1024 * s.grp.index) 960 0,
             .frame 0 s.grp.ringAddr typ s.grp.index i (p.tx + 1) mseq tenant slot result]))
    ∧ (goes = false → exec (.frameSend peer) s = .next s)
    ∧ ((s.resyncSent i).peer i = { p with resync := false, inService := true, last := s.now } ∨ p.inService = false)
    ∧ (s.maySend = true → s.grp.beatAt + 1000 ≤ s.now → ∃ t, exec .heartbeatTimer s = .next t ∧ t.grp.beatAt = s.now
      ∧ (∀ j ∈ s.others, ∃ x ∈ (t.peer j).outq, x.1 = 3) ∧ (∀ j, (t.peer j).tx = (s.peer j).tx)
      ∧ t = { s with grp := { s.grp with peers := t.grp.peers, beatAt := s.now } })
    ∧ (s.maySend = false ∨ s.now < s.grp.beatAt + 1000 → exec .heartbeatTimer s = .next s)
    ∧ (let silent := s.up && s.grp.member && p.member && p.inService && decide (p.last + 10000 ≤ s.now)
      (silent = true → ∃ u : State,
        exec (.memberSilent peer) s = .next u.checkQuorum ∧ u.peer i = { p with inService := false }
        ∧ u.grp.epoch = s.grp.epoch + 1 ∧ (∀ j, j ≠ i → u.peer j = s.peer j)
        ∧ u = { s with grp := { s.grp with peers := u.grp.peers, epoch := u.grp.epoch } }
        ∧ (s.grp.pending = [] → u.checkQuorum.grp.minority = decide (u.view.length < s.grp.quorum)))
      ∧ (silent = false → exec (.memberSilent peer) s = .next s))
    ∧ ∀ fn : Fin 1024,
        let late := s.grp.pending.filter (fun w => w.fn == fn.val && decide (w.since + 1000 * s.grp.mirrorTo ≤ s.now))
        (s.up = true → exec (.mirrorTimeout fn) s
            = .next (late.foldl (fun a w => (a.endRound w .deviceFault).roundFails true) s))
        ∧ (s.up = false ∨ late = [] → exec (.mirrorTimeout fn) s = .next s)
        ∧ ∀ w : Wait, w.fn = fn.val → (∀ x ∈ (s.endRound w .deviceFault).grp.pending, x.mseq ≠ w.mseq)
          ∧ (w.open_ = true → ((s.endRound w .deviceFault).fn fn.val).mb.done = true)

/-! ## The sideband and the TAP -/

/-- The provisioned ID (R443): GETPID and ENTDAA give 48 bits, the MIPI manufacturer ID at 47:33, 0 at bit 32, 0x9640 at 31:16
and INSTANCE at 15:0, which is bits 15:0 of the device ID until GROUP_CONFIG operation 0xA has set it; the loss of every
supply leaves it. -/
def Obligations.ProvisionedId : Prop :=
  ∀ s : State,
    s.provId.extractLsb' 33 15 = Config.mipiId ∧ s.provId.getLsbD 32 = false
    ∧ s.provId.extractLsb' 16 16 = 0x9640
    ∧ (s.nv.sbInstanceSet = false → s.provId.extractLsb' 0 16 = Config.deviceId.extractLsb' 0 16)
    ∧ (s.nv.sbInstanceSet = true → s.provId.extractLsb' 0 16 = s.nv.sbInstance)
    ∧ (∀ r : MbReq, s.mbTakes 0x0801 r [16] [] → r.w 0 = 10 → s.lcState = 2 → r.w 1 < 65536 →
        ∃ t : State, exec (.groupSidebandId r) s = .next t ∧ t.provId.extractLsb' 0 16 = BitVec.ofNat 16 (r.w 1))
    ∧ (∀ c ∈ [Instr.vaonLoss, .perstNAssert, .rstdaa, .rstact], ∃ t : State, exec c s = .next t ∧ t.provId = s.provId)
    ∧ (s.onBus = true → s.sb.daValid = true → exec .getpid s = .next { s with
        outbox := s.outbox ++ [.i3c (beBytes 6 s.provId.toNat)] })

/-- The I3C target and the MCTP endpoint (R6, R442, R444, R445; message numbers of assumption 26): a target whose pins a
pad loopback tri-states hears nothing (R458); ENTDAA gives an address, RSTDAA
takes it; the enables follow ENEC and DISEC; lengths of 69 to 256 are taken and others refused; control messages and the three
mailbox commands are answered, after an in-band interrupt where the host enabled it; other types are dropped, and in P4 messages are
held. GETSTATUS and the MCTP version give free values. -/
def Obligations.SidebandAnswers : Prop :=
  ∀ s : State,
    let say := fun (t : State) (o : Out) => { t with outbox := t.outbox ++ [o] }
    let tell := fun (t : State) (o : Out) => { t with
      sb := { t.sb with tx := t.sb.tx + 1 }, outbox := t.outbox ++ (if t.sb.ibiEn then [.ibi Config.ibiByte] else []) ++ [o] }
    (s.onBus = true ↔ s.pwr.vaon = true ∧ s.sb.lpbkDepth ≠ 1)
    ∧ (s.onBus = false → ∀ da bits code, ∀ c ∈ [Instr.entdaa da, .rstdaa, .rstact, .enec bits, .disec bits, .cccUnsupported code,
        .hotJoin], exec c s = .next s)
    ∧ (s.onBus = true →
      (∀ da, s.sb.daValid = false → exec (.entdaa da) s = .next (say { s with sb := { s.sb with daValid := true, da := da } }
        (.i3c (beBytes 6 s.provId.toNat ++ [0x06, 0x00]))))
      ∧ (∀ da, s.sb.daValid = true → exec (.entdaa da) s = .next s)
      ∧ exec .rstdaa s = .next { s with sb := { s.sb with daValid := false, da := 0 } }
      ∧ exec .rstact s = .next { s with sb := { s.sb with
        daValid := false, da := 0, eidValid := false, eid := 0, ibiEn := false, hjEn := false } }
      ∧ (∀ bits : BitVec 8, exec (.enec bits) s = .next { s with sb := { s.sb with
          ibiEn := s.sb.ibiEn || bits.getLsbD 0, hjEn := s.sb.hjEn || bits.getLsbD 3 } }
        ∧ exec (.disec bits) s = .next { s with sb := { s.sb with
          ibiEn := s.sb.ibiEn && !bits.getLsbD 0, hjEn := s.sb.hjEn && !bits.getLsbD 3 } })
      ∧ (s.sb.daValid = true → exec .getbcr s = .next (say s (.i3c [0x06])) ∧ exec .getdcr s = .next (say s (.i3c [0x00]))
        ∧ exec .getmwl s = .next (say s (.i3c [s.sb.mwl.toNat / 256, s.sb.mwl.toNat % 256]))
        ∧ exec .getmrl s = .next (say s (.i3c [s.sb.mrl.toNat / 256, s.sb.mrl.toNat % 256]))
        ∧ (∀ n, 69 ≤ n.toNat → n.toNat ≤ 256 → exec (.setmwl n) s = .next { s with sb := { s.sb with mwl := n } }
          ∧ exec (.setmrl n) s = .next { s with sb := { s.sb with mrl := n } })
        ∧ (∀ n, n.toNat < 69 ∨ 256 < n.toNat → exec (.setmwl n) s = .next (say s .i3cNack)
          ∧ exec (.setmrl n) s = .next (say s .i3cNack))
        ∧ ∃ a b, exec .getstatus s = .next { say s (.i3c [a, b]) with free := s.free + 2 })
      ∧ (∀ code, exec (.cccUnsupported code) s = .next (say s .i3cNack))
      ∧ (s.sb.daValid = false → s.sb.hjEn = true → exec .hotJoin s = .next (say s (.i3c [0x02])))
      ∧ (s.sb.daValid = true ∨ s.sb.hjEn = false → exec .hotJoin s = .next s))
    ∧ (s.onBus = false ∨ s.sb.daValid = false → ∀ n,
      ∀ c ∈ [Instr.getpid, .getbcr, .getdcr, .getmwl, .getmrl, .setmwl n, .setmrl n, .getstatus], exec c s = .next s)
    ∧ (let heard : State := { s with sb := { s.sb with rx := s.sb.rx + 1 } }
      (s.mctpUp = true →
        (∀ eid : Byte, eid ≠ 0xFF → exec (.setEndpointId eid) s = .next
          (tell { heard with sb := { heard.sb with eidValid := eid != 0, eid := eid } } (.mctp [0x00, 0x00, eid.toNat, 0x00])))
        ∧ exec (.setEndpointId 0xFF) s = .next (tell heard (.mctp [0x02]))
        ∧ exec .getEndpointId s = .next (tell heard (.mctp [0x00, s.sb.eid.toNat, 0x00, 0x00]))
        ∧ exec .getMessageTypeSupport s = .next (tell heard (.mctp [0x00, 0x03, 0x05, 0x06, 0x7E]))
        ∧ exec .getEndpointUuid s = .next (tell heard (.mctp (0x00 :: beBytes 16 Config.uuid.toNat)))
        ∧ (∃ v, v.length = 4 ∧ exec .getMctpVersionSupport s = .next
            { tell heard (.mctp ([0x00, 0x01] ++ v)) with free := s.free + 4 })
        ∧ (∀ typ, s.servesType typ = false → exec (.mctpTypeDropped typ) s = .next heard)
        ∧ (s.sb.eidValid = true → s.scrapped = false → ∀ (cmd : BitVec 16) (r0 : MbReq),
          cmd ∈ [(0x0001 : BitVec 16), 0x0002, 0x0901] →
          let r := { r0 with fn := 0 }
          let answer := fun (st : Status) (why : Reason) (payload : List Byte) => tell heard
            (.mctp ((mbBytes cmd.toNat st why 0 r.token s.mp.epoch payload).map (·.toNat)))
          let lens := [if cmd = 0x0901 then 16 else 0]
          (s.serves 0 = false → exec (.mctpVendorMailbox cmd r0) s = .next (answer .stateRefused .mpRestarting []))
          ∧ (s.serves 0 = true →
            (∀ st why, heard.mbCheck cmd.toNat r lens [] = some (st, why) →
              exec (.mctpVendorMailbox cmd r0) s = .next (answer st why []))
            ∧ (heard.mbCheck cmd.toNat r lens [] = none →
              (cmd = 0x0001 → exec (.mctpVendorMailbox cmd r0) s = .next (answer .ok .none (wordBytes (s.statusWords 0))))
              ∧ (cmd = 0x0002 → exec (.mctpVendorMailbox cmd r0) s = .next (answer .ok .none s.versionBytes))
              ∧ (cmd = 0x0901 → exec (.mctpVendorMailbox cmd r0) s = .next (if logLimits (r.w 0) (r.w 1) then
                  answer .ok .none (s.logBytesAt (r.w 0) (r.w 1)) else answer .badRange .none [])))))
        ∧ (∀ cmd words, cmd ∉ [(0x0001 : BitVec 16), 0x0002, 0x0901] → exec (.mctpVendorMailbox cmd words) s = .next s))
      ∧ (s.up = true → s.pwr.state = 4 → s.onBus = true → s.sb.daValid = true → ∀ eid typ cmd r t,
        ∀ c ∈ [Instr.setEndpointId eid, .getEndpointId, .getMctpVersionSupport, .getMessageTypeSupport, .getEndpointUuid,
            .mctpTypeDropped typ, .mctpVendorMailbox cmd r, .spdmGetDigests .mctp, .spdmHeartbeat .mctp, .spdmGetVersion t],
          c ≠ .spdmGetVersion .doe →
          (s.sb.held.length < 8 → exec c s = .next { s with sb := { s.sb with held := s.sb.held ++ [c] } })
          ∧ (8 ≤ s.sb.held.length → exec c s = .next s)))

/-- The test access port (R138, R354, R361, R363 to R366, R469 to R471): an instruction loads and shifts out its register; a token
shifted in whole reaches the token buffer; a debug-open boot lets the port read and write the cores and every SRAM area but the
vault's, and a test mode SRAM, MRAM and wrappers, while a place without a path reads 0 and keeps what it holds; a SCRAPPED device,
and a port that its state bars, answers with the bypass bit alone. -/
def Obligations.TapAnswers : Prop :=
  ∀ s : State,
    (s.pwr.main = true →
      let bypass : State := { s with tap := { s.tap with ir := 0xFF }, outbox := s.outbox ++ [.tdo 1 0] }
      let writes := fun (code : Byte) (p : PortPlace) (v : QWord) => { s with tap := { s.tap with
        ir := code, mem := Tab.ins (portKey p) v (Tab.drop s.tap.mem (portKey p)) } }
      let reads := fun (code : Byte) (p : PortPlace) (x : BitVec 128) => { s with
        tap := { s.tap with ir := code }, outbox := s.outbox ++ [.tdo 64 x]
        free := s.free + (if s.tap.mem.any (fun e => e.1 == portKey p) then 0 else 1) }
      let port := fun (open_ : Bool) (path : PortPlace → Bool) (c : PortPlace → Bool → QWord → Instr) (code : Byte) => ∀ p,
        (open_ = false → ∀ wr v, exec (c p wr v) s = .next bypass)
        ∧ (open_ = true →
          (path p = true → (∀ v, exec (c p true v) s = .next (writes code p v))
            ∧ ∃ x, ∀ v, exec (c p false v) s = .next (reads code p x))
          ∧ (path p = false → (∀ v, exec (c p true v) s = .next { s with tap := { s.tap with ir := code } })
            ∧ ∀ v, exec (c p false v) s = .next { s with tap := { s.tap with ir := code }, outbox := s.outbox ++ [.tdo 64 0] }))
      exec .idcode s = .next { s with tap := { s.tap with ir := 0x01 }, outbox := s.outbox ++ [.tdo 32 idcodeWord] }
      ∧ (∀ code, exec (.bypass code) s = .next bypass)
      ∧ (s.scrapped = true → ∀ (v : List Bool) (tok : Token) (w : Bool),
        exec (.samplePreload v) s = .next bypass ∧ exec (.lcToken tok w) s = .next bypass ∧ exec .lcNonceRd s = .next bypass)
      ∧ (s.scrapped = false →
        (∀ v, exec (.samplePreload v) s = .next { s with tap := { s.tap with ir := 0x02, boundary := v } })
        ∧ (∀ tok, exec (.lcToken tok true) s = .next { s with tap := { s.tap with ir := 0x10 },
                                                               lc := { s.lc with token := some tok } })
        ∧ (∀ tok, exec (.lcToken tok false) s = .next { s with tap := { s.tap with ir := 0x10 } })
        ∧ exec .lcNonceRd s = .next { s with tap := { s.tap with ir := 0x11 }, outbox := s.outbox ++ [.tdo 128 s.lc.nonce] })
      ∧ (∀ code : Byte, 0x40 ≤ code.toNat → code.toNat ≤ 0x5F →
        port (s.up && s.lc.debugOpen && s.lcState != 3 && !s.scrapped) portDebugged (.debugPort code) code)
      ∧ (∀ code : Byte, 0x60 ≤ code.toNat → code.toNat ≤ 0x6F →
        port (s.up && s.lc.testModes && !s.scrapped) (portTested s.lcState) (.memoryTest code) code)
      ∧ (∀ w, portDebugged (.sram .vault w) = false) ∧ (∀ k l, portTested k (.keys l) = false)
      ∧ ∀ w, portTested 4 (.protected_ w) = false)
    ∧ (idcodeWord.getLsbD 0 = true ∧ idcodeWord.extractLsb' 12 16 = 0x9640 ∧ idcodeWord.extractLsb' 28 4 = 0xB)
    ∧ exec .tapReset s = .next { s with tap := { s.tap with ir := 0x01 } }
    ∧ (s.pwr.main = false → ∀ v tok w code p wr d, ∀ c ∈ [Instr.idcode, .samplePreload v, .lcToken tok w, .lcNonceRd, .bypass code,
        .debugPort code p wr d, .memoryTest code p wr d], exec c s = .next s)
end

