-- ==== Sys2Proof/Laws/State.lean ====
section
/-! SUPPORT. What each update of the state leaves in each field: one lemma per field per update, all by computation, so
that no proof unfolds a record update. -/

namespace Sys2Proof.Machine

variable (s : State)

/-! ## setFn -/

@[simp] theorem State.setFn_pending (f : Nat) (r : FnRec) : (s.setFn f r).pending = s.pending := rfl
@[simp] theorem State.setFn_outbox (f : Nat) (r : FnRec) : (s.setFn f r).outbox = s.outbox := rfl
@[simp] theorem State.setFn_free (f : Nat) (r : FnRec) : (s.setFn f r).free = s.free := rfl
@[simp] theorem State.setFn_hif (f : Nat) (r : FnRec) : (s.setFn f r).hif = s.hif := rfl
@[simp] theorem State.setFn_spdm (f : Nat) (r : FnRec) : (s.setFn f r).spdm = s.spdm := rfl
@[simp] theorem State.setFn_fns (f : Nat) (r : FnRec) : (s.setFn f r).fns = Tab.put {} s.fns f r := rfl
@[simp] theorem State.setFn_qm (f : Nat) (r : FnRec) : (s.setFn f r).qm = s.qm := rfl
@[simp] theorem State.setFn_orc (f : Nat) (r : FnRec) : (s.setFn f r).orc = s.orc := rfl
@[simp] theorem State.setFn_eng (f : Nat) (r : FnRec) : (s.setFn f r).eng = s.eng := rfl
@[simp] theorem State.setFn_hbm (f : Nat) (r : FnRec) : (s.setFn f r).hbm = s.hbm := rfl
@[simp] theorem State.setFn_pulp (f : Nat) (r : FnRec) : (s.setFn f r).pulp = s.pulp := rfl
@[simp] theorem State.setFn_vlt (f : Nat) (r : FnRec) : (s.setFn f r).vlt = s.vlt := rfl
@[simp] theorem State.setFn_nv (f : Nat) (r : FnRec) : (s.setFn f r).nv = s.nv := rfl
@[simp] theorem State.setFn_rng (f : Nat) (r : FnRec) : (s.setFn f r).rng = s.rng := rfl
@[simp] theorem State.setFn_mp (f : Nat) (r : FnRec) : (s.setFn f r).mp = s.mp := rfl
@[simp] theorem State.setFn_lc (f : Nat) (r : FnRec) : (s.setFn f r).lc = s.lc := rfl
@[simp] theorem State.setFn_rnd (f : Nat) (r : FnRec) : (s.setFn f r).rnd = s.rnd := rfl
@[simp] theorem State.setFn_flt (f : Nat) (r : FnRec) : (s.setFn f r).flt = s.flt := rfl
@[simp] theorem State.setFn_log (f : Nat) (r : FnRec) : (s.setFn f r).log = s.log := rfl
@[simp] theorem State.setFn_pwr (f : Nat) (r : FnRec) : (s.setFn f r).pwr = s.pwr := rfl
@[simp] theorem State.setFn_grp (f : Nat) (r : FnRec) : (s.setFn f r).grp = s.grp := rfl
@[simp] theorem State.setFn_sb (f : Nat) (r : FnRec) : (s.setFn f r).sb = s.sb := rfl
@[simp] theorem State.setFn_tap (f : Nat) (r : FnRec) : (s.setFn f r).tap = s.tap := rfl

/-! ## setPort -/

@[simp] theorem State.setPort_pending (f : Nat) (p : FnPort) : (s.setPort f p).pending = s.pending := rfl
@[simp] theorem State.setPort_outbox (f : Nat) (p : FnPort) : (s.setPort f p).outbox = s.outbox := rfl
@[simp] theorem State.setPort_free (f : Nat) (p : FnPort) : (s.setPort f p).free = s.free := rfl
@[simp] theorem State.setPort_hif (f : Nat) (p : FnPort) : (s.setPort f p).hif = s.hif := rfl
@[simp] theorem State.setPort_spdm (f : Nat) (p : FnPort) : (s.setPort f p).spdm = s.spdm := rfl
@[simp] theorem State.setPort_fns (f : Nat) (p : FnPort) : (s.setPort f p).fns = Tab.put {} s.fns f { s.fn f with port := p } := rfl
@[simp] theorem State.setPort_qm (f : Nat) (p : FnPort) : (s.setPort f p).qm = s.qm := rfl
@[simp] theorem State.setPort_orc (f : Nat) (p : FnPort) : (s.setPort f p).orc = s.orc := rfl
@[simp] theorem State.setPort_eng (f : Nat) (p : FnPort) : (s.setPort f p).eng = s.eng := rfl
@[simp] theorem State.setPort_hbm (f : Nat) (p : FnPort) : (s.setPort f p).hbm = s.hbm := rfl
@[simp] theorem State.setPort_pulp (f : Nat) (p : FnPort) : (s.setPort f p).pulp = s.pulp := rfl
@[simp] theorem State.setPort_vlt (f : Nat) (p : FnPort) : (s.setPort f p).vlt = s.vlt := rfl
@[simp] theorem State.setPort_nv (f : Nat) (p : FnPort) : (s.setPort f p).nv = s.nv := rfl
@[simp] theorem State.setPort_rng (f : Nat) (p : FnPort) : (s.setPort f p).rng = s.rng := rfl
@[simp] theorem State.setPort_mp (f : Nat) (p : FnPort) : (s.setPort f p).mp = s.mp := rfl
@[simp] theorem State.setPort_lc (f : Nat) (p : FnPort) : (s.setPort f p).lc = s.lc := rfl
@[simp] theorem State.setPort_rnd (f : Nat) (p : FnPort) : (s.setPort f p).rnd = s.rnd := rfl
@[simp] theorem State.setPort_flt (f : Nat) (p : FnPort) : (s.setPort f p).flt = s.flt := rfl
@[simp] theorem State.setPort_log (f : Nat) (p : FnPort) : (s.setPort f p).log = s.log := rfl
@[simp] theorem State.setPort_pwr (f : Nat) (p : FnPort) : (s.setPort f p).pwr = s.pwr := rfl
@[simp] theorem State.setPort_grp (f : Nat) (p : FnPort) : (s.setPort f p).grp = s.grp := rfl
@[simp] theorem State.setPort_sb (f : Nat) (p : FnPort) : (s.setPort f p).sb = s.sb := rfl
@[simp] theorem State.setPort_tap (f : Nat) (p : FnPort) : (s.setPort f p).tap = s.tap := rfl

/-! ## setMb -/

@[simp] theorem State.setMb_pending (f : Nat) (m : Mbox) : (s.setMb f m).pending = s.pending := rfl
@[simp] theorem State.setMb_outbox (f : Nat) (m : Mbox) : (s.setMb f m).outbox = s.outbox := rfl
@[simp] theorem State.setMb_free (f : Nat) (m : Mbox) : (s.setMb f m).free = s.free := rfl
@[simp] theorem State.setMb_hif (f : Nat) (m : Mbox) : (s.setMb f m).hif = s.hif := rfl
@[simp] theorem State.setMb_spdm (f : Nat) (m : Mbox) : (s.setMb f m).spdm = s.spdm := rfl
@[simp] theorem State.setMb_fns (f : Nat) (m : Mbox) : (s.setMb f m).fns = Tab.put {} s.fns f { s.fn f with mb := m } := rfl
@[simp] theorem State.setMb_qm (f : Nat) (m : Mbox) : (s.setMb f m).qm = s.qm := rfl
@[simp] theorem State.setMb_orc (f : Nat) (m : Mbox) : (s.setMb f m).orc = s.orc := rfl
@[simp] theorem State.setMb_eng (f : Nat) (m : Mbox) : (s.setMb f m).eng = s.eng := rfl
@[simp] theorem State.setMb_hbm (f : Nat) (m : Mbox) : (s.setMb f m).hbm = s.hbm := rfl
@[simp] theorem State.setMb_pulp (f : Nat) (m : Mbox) : (s.setMb f m).pulp = s.pulp := rfl
@[simp] theorem State.setMb_vlt (f : Nat) (m : Mbox) : (s.setMb f m).vlt = s.vlt := rfl
@[simp] theorem State.setMb_nv (f : Nat) (m : Mbox) : (s.setMb f m).nv = s.nv := rfl
@[simp] theorem State.setMb_rng (f : Nat) (m : Mbox) : (s.setMb f m).rng = s.rng := rfl
@[simp] theorem State.setMb_mp (f : Nat) (m : Mbox) : (s.setMb f m).mp = s.mp := rfl
@[simp] theorem State.setMb_lc (f : Nat) (m : Mbox) : (s.setMb f m).lc = s.lc := rfl
@[simp] theorem State.setMb_rnd (f : Nat) (m : Mbox) : (s.setMb f m).rnd = s.rnd := rfl
@[simp] theorem State.setMb_flt (f : Nat) (m : Mbox) : (s.setMb f m).flt = s.flt := rfl
@[simp] theorem State.setMb_log (f : Nat) (m : Mbox) : (s.setMb f m).log = s.log := rfl
@[simp] theorem State.setMb_pwr (f : Nat) (m : Mbox) : (s.setMb f m).pwr = s.pwr := rfl
@[simp] theorem State.setMb_grp (f : Nat) (m : Mbox) : (s.setMb f m).grp = s.grp := rfl
@[simp] theorem State.setMb_sb (f : Nat) (m : Mbox) : (s.setMb f m).sb = s.sb := rfl
@[simp] theorem State.setMb_tap (f : Nat) (m : Mbox) : (s.setMb f m).tap = s.tap := rfl

/-! ## setShare -/

@[simp] theorem State.setShare_pending (f : Nat) (h : Share) : (s.setShare f h).pending = s.pending := rfl
@[simp] theorem State.setShare_outbox (f : Nat) (h : Share) : (s.setShare f h).outbox = s.outbox := rfl
@[simp] theorem State.setShare_free (f : Nat) (h : Share) : (s.setShare f h).free = s.free := rfl
@[simp] theorem State.setShare_hif (f : Nat) (h : Share) : (s.setShare f h).hif = s.hif := rfl
@[simp] theorem State.setShare_spdm (f : Nat) (h : Share) : (s.setShare f h).spdm = s.spdm := rfl
@[simp] theorem State.setShare_fns (f : Nat) (h : Share) : (s.setShare f h).fns = Tab.put {} s.fns f { s.fn f with share := h } := rfl
@[simp] theorem State.setShare_qm (f : Nat) (h : Share) : (s.setShare f h).qm = s.qm := rfl
@[simp] theorem State.setShare_orc (f : Nat) (h : Share) : (s.setShare f h).orc = s.orc := rfl
@[simp] theorem State.setShare_eng (f : Nat) (h : Share) : (s.setShare f h).eng = s.eng := rfl
@[simp] theorem State.setShare_hbm (f : Nat) (h : Share) : (s.setShare f h).hbm = s.hbm := rfl
@[simp] theorem State.setShare_pulp (f : Nat) (h : Share) : (s.setShare f h).pulp = s.pulp := rfl
@[simp] theorem State.setShare_vlt (f : Nat) (h : Share) : (s.setShare f h).vlt = s.vlt := rfl
@[simp] theorem State.setShare_nv (f : Nat) (h : Share) : (s.setShare f h).nv = s.nv := rfl
@[simp] theorem State.setShare_rng (f : Nat) (h : Share) : (s.setShare f h).rng = s.rng := rfl
@[simp] theorem State.setShare_mp (f : Nat) (h : Share) : (s.setShare f h).mp = s.mp := rfl
@[simp] theorem State.setShare_lc (f : Nat) (h : Share) : (s.setShare f h).lc = s.lc := rfl
@[simp] theorem State.setShare_rnd (f : Nat) (h : Share) : (s.setShare f h).rnd = s.rnd := rfl
@[simp] theorem State.setShare_flt (f : Nat) (h : Share) : (s.setShare f h).flt = s.flt := rfl
@[simp] theorem State.setShare_log (f : Nat) (h : Share) : (s.setShare f h).log = s.log := rfl
@[simp] theorem State.setShare_pwr (f : Nat) (h : Share) : (s.setShare f h).pwr = s.pwr := rfl
@[simp] theorem State.setShare_grp (f : Nat) (h : Share) : (s.setShare f h).grp = s.grp := rfl
@[simp] theorem State.setShare_sb (f : Nat) (h : Share) : (s.setShare f h).sb = s.sb := rfl
@[simp] theorem State.setShare_tap (f : Nat) (h : Share) : (s.setShare f h).tap = s.tap := rfl

/-! ## setTen -/

@[simp] theorem State.setTen_pending (f : Nat) (t : Tenant) : (s.setTen f t).pending = s.pending := rfl
@[simp] theorem State.setTen_outbox (f : Nat) (t : Tenant) : (s.setTen f t).outbox = s.outbox := rfl
@[simp] theorem State.setTen_free (f : Nat) (t : Tenant) : (s.setTen f t).free = s.free := rfl
@[simp] theorem State.setTen_hif (f : Nat) (t : Tenant) : (s.setTen f t).hif = s.hif := rfl
@[simp] theorem State.setTen_spdm (f : Nat) (t : Tenant) : (s.setTen f t).spdm = s.spdm := rfl
@[simp] theorem State.setTen_fns (f : Nat) (t : Tenant) : (s.setTen f t).fns = Tab.put {} s.fns f { s.fn f with ten := t } := rfl
@[simp] theorem State.setTen_qm (f : Nat) (t : Tenant) : (s.setTen f t).qm = s.qm := rfl
@[simp] theorem State.setTen_orc (f : Nat) (t : Tenant) : (s.setTen f t).orc = s.orc := rfl
@[simp] theorem State.setTen_eng (f : Nat) (t : Tenant) : (s.setTen f t).eng = s.eng := rfl
@[simp] theorem State.setTen_hbm (f : Nat) (t : Tenant) : (s.setTen f t).hbm = s.hbm := rfl
@[simp] theorem State.setTen_pulp (f : Nat) (t : Tenant) : (s.setTen f t).pulp = s.pulp := rfl
@[simp] theorem State.setTen_vlt (f : Nat) (t : Tenant) : (s.setTen f t).vlt = s.vlt := rfl
@[simp] theorem State.setTen_nv (f : Nat) (t : Tenant) : (s.setTen f t).nv = s.nv := rfl
@[simp] theorem State.setTen_rng (f : Nat) (t : Tenant) : (s.setTen f t).rng = s.rng := rfl
@[simp] theorem State.setTen_mp (f : Nat) (t : Tenant) : (s.setTen f t).mp = s.mp := rfl
@[simp] theorem State.setTen_lc (f : Nat) (t : Tenant) : (s.setTen f t).lc = s.lc := rfl
@[simp] theorem State.setTen_rnd (f : Nat) (t : Tenant) : (s.setTen f t).rnd = s.rnd := rfl
@[simp] theorem State.setTen_flt (f : Nat) (t : Tenant) : (s.setTen f t).flt = s.flt := rfl
@[simp] theorem State.setTen_log (f : Nat) (t : Tenant) : (s.setTen f t).log = s.log := rfl
@[simp] theorem State.setTen_pwr (f : Nat) (t : Tenant) : (s.setTen f t).pwr = s.pwr := rfl
@[simp] theorem State.setTen_grp (f : Nat) (t : Tenant) : (s.setTen f t).grp = s.grp := rfl
@[simp] theorem State.setTen_sb (f : Nat) (t : Tenant) : (s.setTen f t).sb = s.sb := rfl
@[simp] theorem State.setTen_tap (f : Nat) (t : Tenant) : (s.setTen f t).tap = s.tap := rfl

/-! ## setRngw -/

@[simp] theorem State.setRngw_pending (f : Nat) (w : RngWin) : (s.setRngw f w).pending = s.pending := rfl
@[simp] theorem State.setRngw_outbox (f : Nat) (w : RngWin) : (s.setRngw f w).outbox = s.outbox := rfl
@[simp] theorem State.setRngw_free (f : Nat) (w : RngWin) : (s.setRngw f w).free = s.free := rfl
@[simp] theorem State.setRngw_hif (f : Nat) (w : RngWin) : (s.setRngw f w).hif = s.hif := rfl
@[simp] theorem State.setRngw_spdm (f : Nat) (w : RngWin) : (s.setRngw f w).spdm = s.spdm := rfl
@[simp] theorem State.setRngw_fns (f : Nat) (w : RngWin) : (s.setRngw f w).fns = Tab.put {} s.fns f { s.fn f with rngw := w } := rfl
@[simp] theorem State.setRngw_qm (f : Nat) (w : RngWin) : (s.setRngw f w).qm = s.qm := rfl
@[simp] theorem State.setRngw_orc (f : Nat) (w : RngWin) : (s.setRngw f w).orc = s.orc := rfl
@[simp] theorem State.setRngw_eng (f : Nat) (w : RngWin) : (s.setRngw f w).eng = s.eng := rfl
@[simp] theorem State.setRngw_hbm (f : Nat) (w : RngWin) : (s.setRngw f w).hbm = s.hbm := rfl
@[simp] theorem State.setRngw_pulp (f : Nat) (w : RngWin) : (s.setRngw f w).pulp = s.pulp := rfl
@[simp] theorem State.setRngw_vlt (f : Nat) (w : RngWin) : (s.setRngw f w).vlt = s.vlt := rfl
@[simp] theorem State.setRngw_nv (f : Nat) (w : RngWin) : (s.setRngw f w).nv = s.nv := rfl
@[simp] theorem State.setRngw_rng (f : Nat) (w : RngWin) : (s.setRngw f w).rng = s.rng := rfl
@[simp] theorem State.setRngw_mp (f : Nat) (w : RngWin) : (s.setRngw f w).mp = s.mp := rfl
@[simp] theorem State.setRngw_lc (f : Nat) (w : RngWin) : (s.setRngw f w).lc = s.lc := rfl
@[simp] theorem State.setRngw_rnd (f : Nat) (w : RngWin) : (s.setRngw f w).rnd = s.rnd := rfl
@[simp] theorem State.setRngw_flt (f : Nat) (w : RngWin) : (s.setRngw f w).flt = s.flt := rfl
@[simp] theorem State.setRngw_log (f : Nat) (w : RngWin) : (s.setRngw f w).log = s.log := rfl
@[simp] theorem State.setRngw_pwr (f : Nat) (w : RngWin) : (s.setRngw f w).pwr = s.pwr := rfl
@[simp] theorem State.setRngw_grp (f : Nat) (w : RngWin) : (s.setRngw f w).grp = s.grp := rfl
@[simp] theorem State.setRngw_sb (f : Nat) (w : RngWin) : (s.setRngw f w).sb = s.sb := rfl
@[simp] theorem State.setRngw_tap (f : Nat) (w : RngWin) : (s.setRngw f w).tap = s.tap := rfl

/-! ## setPulpPart -/

@[simp] theorem State.setPulpPart_pending (f : Nat) (w : PulpPart) : (s.setPulpPart f w).pending = s.pending := rfl
@[simp] theorem State.setPulpPart_outbox (f : Nat) (w : PulpPart) : (s.setPulpPart f w).outbox = s.outbox := rfl
@[simp] theorem State.setPulpPart_free (f : Nat) (w : PulpPart) : (s.setPulpPart f w).free = s.free := rfl
@[simp] theorem State.setPulpPart_hif (f : Nat) (w : PulpPart) : (s.setPulpPart f w).hif = s.hif := rfl
@[simp] theorem State.setPulpPart_spdm (f : Nat) (w : PulpPart) : (s.setPulpPart f w).spdm = s.spdm := rfl
@[simp] theorem State.setPulpPart_fns (f : Nat) (w : PulpPart) : (s.setPulpPart f w).fns = Tab.put {} s.fns f { s.fn f with pulp := w } := rfl
@[simp] theorem State.setPulpPart_qm (f : Nat) (w : PulpPart) : (s.setPulpPart f w).qm = s.qm := rfl
@[simp] theorem State.setPulpPart_orc (f : Nat) (w : PulpPart) : (s.setPulpPart f w).orc = s.orc := rfl
@[simp] theorem State.setPulpPart_eng (f : Nat) (w : PulpPart) : (s.setPulpPart f w).eng = s.eng := rfl
@[simp] theorem State.setPulpPart_hbm (f : Nat) (w : PulpPart) : (s.setPulpPart f w).hbm = s.hbm := rfl
@[simp] theorem State.setPulpPart_pulp (f : Nat) (w : PulpPart) : (s.setPulpPart f w).pulp = s.pulp := rfl
@[simp] theorem State.setPulpPart_vlt (f : Nat) (w : PulpPart) : (s.setPulpPart f w).vlt = s.vlt := rfl
@[simp] theorem State.setPulpPart_nv (f : Nat) (w : PulpPart) : (s.setPulpPart f w).nv = s.nv := rfl
@[simp] theorem State.setPulpPart_rng (f : Nat) (w : PulpPart) : (s.setPulpPart f w).rng = s.rng := rfl
@[simp] theorem State.setPulpPart_mp (f : Nat) (w : PulpPart) : (s.setPulpPart f w).mp = s.mp := rfl
@[simp] theorem State.setPulpPart_lc (f : Nat) (w : PulpPart) : (s.setPulpPart f w).lc = s.lc := rfl
@[simp] theorem State.setPulpPart_rnd (f : Nat) (w : PulpPart) : (s.setPulpPart f w).rnd = s.rnd := rfl
@[simp] theorem State.setPulpPart_flt (f : Nat) (w : PulpPart) : (s.setPulpPart f w).flt = s.flt := rfl
@[simp] theorem State.setPulpPart_log (f : Nat) (w : PulpPart) : (s.setPulpPart f w).log = s.log := rfl
@[simp] theorem State.setPulpPart_pwr (f : Nat) (w : PulpPart) : (s.setPulpPart f w).pwr = s.pwr := rfl
@[simp] theorem State.setPulpPart_grp (f : Nat) (w : PulpPart) : (s.setPulpPart f w).grp = s.grp := rfl
@[simp] theorem State.setPulpPart_sb (f : Nat) (w : PulpPart) : (s.setPulpPart f w).sb = s.sb := rfl
@[simp] theorem State.setPulpPart_tap (f : Nat) (w : PulpPart) : (s.setPulpPart f w).tap = s.tap := rfl

/-! ## emit -/

@[simp] theorem State.emit_pending (o : Out) : (s.emit o).pending = s.pending := rfl
@[simp] theorem State.emit_outbox (o : Out) : (s.emit o).outbox = s.outbox ++ [o] := rfl
@[simp] theorem State.emit_free (o : Out) : (s.emit o).free = s.free := rfl
@[simp] theorem State.emit_hif (o : Out) : (s.emit o).hif = s.hif := rfl
@[simp] theorem State.emit_spdm (o : Out) : (s.emit o).spdm = s.spdm := rfl
@[simp] theorem State.emit_fns (o : Out) : (s.emit o).fns = s.fns := rfl
@[simp] theorem State.emit_qm (o : Out) : (s.emit o).qm = s.qm := rfl
@[simp] theorem State.emit_orc (o : Out) : (s.emit o).orc = s.orc := rfl
@[simp] theorem State.emit_eng (o : Out) : (s.emit o).eng = s.eng := rfl
@[simp] theorem State.emit_hbm (o : Out) : (s.emit o).hbm = s.hbm := rfl
@[simp] theorem State.emit_pulp (o : Out) : (s.emit o).pulp = s.pulp := rfl
@[simp] theorem State.emit_vlt (o : Out) : (s.emit o).vlt = s.vlt := rfl
@[simp] theorem State.emit_nv (o : Out) : (s.emit o).nv = s.nv := rfl
@[simp] theorem State.emit_rng (o : Out) : (s.emit o).rng = s.rng := rfl
@[simp] theorem State.emit_mp (o : Out) : (s.emit o).mp = s.mp := rfl
@[simp] theorem State.emit_lc (o : Out) : (s.emit o).lc = s.lc := rfl
@[simp] theorem State.emit_rnd (o : Out) : (s.emit o).rnd = s.rnd := rfl
@[simp] theorem State.emit_flt (o : Out) : (s.emit o).flt = s.flt := rfl
@[simp] theorem State.emit_log (o : Out) : (s.emit o).log = s.log := rfl
@[simp] theorem State.emit_pwr (o : Out) : (s.emit o).pwr = s.pwr := rfl
@[simp] theorem State.emit_grp (o : Out) : (s.emit o).grp = s.grp := rfl
@[simp] theorem State.emit_sb (o : Out) : (s.emit o).sb = s.sb := rfl
@[simp] theorem State.emit_tap (o : Out) : (s.emit o).tap = s.tap := rfl

/-! ## draw -/

@[simp] theorem State.draw_pending (n : Nat) : (s.draw n).pending = s.pending := rfl
@[simp] theorem State.draw_outbox (n : Nat) : (s.draw n).outbox = s.outbox := rfl
@[simp] theorem State.draw_free (n : Nat) : (s.draw n).free = s.free + n := rfl
@[simp] theorem State.draw_hif (n : Nat) : (s.draw n).hif = s.hif := rfl
@[simp] theorem State.draw_spdm (n : Nat) : (s.draw n).spdm = s.spdm := rfl
@[simp] theorem State.draw_fns (n : Nat) : (s.draw n).fns = s.fns := rfl
@[simp] theorem State.draw_qm (n : Nat) : (s.draw n).qm = s.qm := rfl
@[simp] theorem State.draw_orc (n : Nat) : (s.draw n).orc = s.orc := rfl
@[simp] theorem State.draw_eng (n : Nat) : (s.draw n).eng = s.eng := rfl
@[simp] theorem State.draw_hbm (n : Nat) : (s.draw n).hbm = s.hbm := rfl
@[simp] theorem State.draw_pulp (n : Nat) : (s.draw n).pulp = s.pulp := rfl
@[simp] theorem State.draw_vlt (n : Nat) : (s.draw n).vlt = s.vlt := rfl
@[simp] theorem State.draw_nv (n : Nat) : (s.draw n).nv = s.nv := rfl
@[simp] theorem State.draw_rng (n : Nat) : (s.draw n).rng = s.rng := rfl
@[simp] theorem State.draw_mp (n : Nat) : (s.draw n).mp = s.mp := rfl
@[simp] theorem State.draw_lc (n : Nat) : (s.draw n).lc = s.lc := rfl
@[simp] theorem State.draw_rnd (n : Nat) : (s.draw n).rnd = s.rnd := rfl
@[simp] theorem State.draw_flt (n : Nat) : (s.draw n).flt = s.flt := rfl
@[simp] theorem State.draw_log (n : Nat) : (s.draw n).log = s.log := rfl
@[simp] theorem State.draw_pwr (n : Nat) : (s.draw n).pwr = s.pwr := rfl
@[simp] theorem State.draw_grp (n : Nat) : (s.draw n).grp = s.grp := rfl
@[simp] theorem State.draw_sb (n : Nat) : (s.draw n).sb = s.sb := rfl
@[simp] theorem State.draw_tap (n : Nat) : (s.draw n).tap = s.tap := rfl

/-! ## setOrc -/

@[simp] theorem State.setOrc_pending (o : Orc) : (s.setOrc o).pending = s.pending := rfl
@[simp] theorem State.setOrc_outbox (o : Orc) : (s.setOrc o).outbox = s.outbox := rfl
@[simp] theorem State.setOrc_free (o : Orc) : (s.setOrc o).free = s.free := rfl
@[simp] theorem State.setOrc_hif (o : Orc) : (s.setOrc o).hif = s.hif := rfl
@[simp] theorem State.setOrc_spdm (o : Orc) : (s.setOrc o).spdm = s.spdm := rfl
@[simp] theorem State.setOrc_fns (o : Orc) : (s.setOrc o).fns = s.fns := rfl
@[simp] theorem State.setOrc_qm (o : Orc) : (s.setOrc o).qm = s.qm := rfl
@[simp] theorem State.setOrc_orc (o : Orc) : (s.setOrc o).orc = o := rfl
@[simp] theorem State.setOrc_eng (o : Orc) : (s.setOrc o).eng = s.eng := rfl
@[simp] theorem State.setOrc_hbm (o : Orc) : (s.setOrc o).hbm = s.hbm := rfl
@[simp] theorem State.setOrc_pulp (o : Orc) : (s.setOrc o).pulp = s.pulp := rfl
@[simp] theorem State.setOrc_vlt (o : Orc) : (s.setOrc o).vlt = s.vlt := rfl
@[simp] theorem State.setOrc_nv (o : Orc) : (s.setOrc o).nv = s.nv := rfl
@[simp] theorem State.setOrc_rng (o : Orc) : (s.setOrc o).rng = s.rng := rfl
@[simp] theorem State.setOrc_mp (o : Orc) : (s.setOrc o).mp = s.mp := rfl
@[simp] theorem State.setOrc_lc (o : Orc) : (s.setOrc o).lc = s.lc := rfl
@[simp] theorem State.setOrc_rnd (o : Orc) : (s.setOrc o).rnd = s.rnd := rfl
@[simp] theorem State.setOrc_flt (o : Orc) : (s.setOrc o).flt = s.flt := rfl
@[simp] theorem State.setOrc_log (o : Orc) : (s.setOrc o).log = s.log := rfl
@[simp] theorem State.setOrc_pwr (o : Orc) : (s.setOrc o).pwr = s.pwr := rfl
@[simp] theorem State.setOrc_grp (o : Orc) : (s.setOrc o).grp = s.grp := rfl
@[simp] theorem State.setOrc_sb (o : Orc) : (s.setOrc o).sb = s.sb := rfl
@[simp] theorem State.setOrc_tap (o : Orc) : (s.setOrc o).tap = s.tap := rfl

/-! ## setRegion -/

@[simp] theorem State.setRegion_pending (r : Nat) (x : Region) : (s.setRegion r x).pending = s.pending := rfl
@[simp] theorem State.setRegion_outbox (r : Nat) (x : Region) : (s.setRegion r x).outbox = s.outbox := rfl
@[simp] theorem State.setRegion_free (r : Nat) (x : Region) : (s.setRegion r x).free = s.free := rfl
@[simp] theorem State.setRegion_hif (r : Nat) (x : Region) : (s.setRegion r x).hif = s.hif := rfl
@[simp] theorem State.setRegion_spdm (r : Nat) (x : Region) : (s.setRegion r x).spdm = s.spdm := rfl
@[simp] theorem State.setRegion_fns (r : Nat) (x : Region) : (s.setRegion r x).fns = s.fns := rfl
@[simp] theorem State.setRegion_qm (r : Nat) (x : Region) : (s.setRegion r x).qm = s.qm := rfl
@[simp] theorem State.setRegion_orc (r : Nat) (x : Region) : (s.setRegion r x).orc = { s.orc with regions := s.orc.regions.set r x } := rfl
@[simp] theorem State.setRegion_eng (r : Nat) (x : Region) : (s.setRegion r x).eng = s.eng := rfl
@[simp] theorem State.setRegion_hbm (r : Nat) (x : Region) : (s.setRegion r x).hbm = s.hbm := rfl
@[simp] theorem State.setRegion_pulp (r : Nat) (x : Region) : (s.setRegion r x).pulp = s.pulp := rfl
@[simp] theorem State.setRegion_vlt (r : Nat) (x : Region) : (s.setRegion r x).vlt = s.vlt := rfl
@[simp] theorem State.setRegion_nv (r : Nat) (x : Region) : (s.setRegion r x).nv = s.nv := rfl
@[simp] theorem State.setRegion_rng (r : Nat) (x : Region) : (s.setRegion r x).rng = s.rng := rfl
@[simp] theorem State.setRegion_mp (r : Nat) (x : Region) : (s.setRegion r x).mp = s.mp := rfl
@[simp] theorem State.setRegion_lc (r : Nat) (x : Region) : (s.setRegion r x).lc = s.lc := rfl
@[simp] theorem State.setRegion_rnd (r : Nat) (x : Region) : (s.setRegion r x).rnd = s.rnd := rfl
@[simp] theorem State.setRegion_flt (r : Nat) (x : Region) : (s.setRegion r x).flt = s.flt := rfl
@[simp] theorem State.setRegion_log (r : Nat) (x : Region) : (s.setRegion r x).log = s.log := rfl
@[simp] theorem State.setRegion_pwr (r : Nat) (x : Region) : (s.setRegion r x).pwr = s.pwr := rfl
@[simp] theorem State.setRegion_grp (r : Nat) (x : Region) : (s.setRegion r x).grp = s.grp := rfl
@[simp] theorem State.setRegion_sb (r : Nat) (x : Region) : (s.setRegion r x).sb = s.sb := rfl
@[simp] theorem State.setRegion_tap (r : Nat) (x : Region) : (s.setRegion r x).tap = s.tap := rfl

/-! ## setCell -/

@[simp] theorem State.setCell_pending (c : UnitClass) (n : Nat) (x : Cell) : (s.setCell c n x).pending = s.pending := rfl
@[simp] theorem State.setCell_outbox (c : UnitClass) (n : Nat) (x : Cell) : (s.setCell c n x).outbox = s.outbox := rfl
@[simp] theorem State.setCell_free (c : UnitClass) (n : Nat) (x : Cell) : (s.setCell c n x).free = s.free := rfl
@[simp] theorem State.setCell_hif (c : UnitClass) (n : Nat) (x : Cell) : (s.setCell c n x).hif = s.hif := rfl
@[simp] theorem State.setCell_spdm (c : UnitClass) (n : Nat) (x : Cell) : (s.setCell c n x).spdm = s.spdm := rfl
@[simp] theorem State.setCell_fns (c : UnitClass) (n : Nat) (x : Cell) : (s.setCell c n x).fns = s.fns := rfl
@[simp] theorem State.setCell_qm (c : UnitClass) (n : Nat) (x : Cell) : (s.setCell c n x).qm = s.qm := rfl
@[simp] theorem State.setCell_orc (c : UnitClass) (n : Nat) (x : Cell) : (s.setCell c n x).orc = s.orc := rfl
@[simp] theorem State.setCell_eng (c : UnitClass) (n : Nat) (x : Cell) : (s.setCell c n x).eng = { s.eng with cells := Tab.put {} s.eng.cells (cellKey c n) x } := rfl
@[simp] theorem State.setCell_hbm (c : UnitClass) (n : Nat) (x : Cell) : (s.setCell c n x).hbm = s.hbm := rfl
@[simp] theorem State.setCell_pulp (c : UnitClass) (n : Nat) (x : Cell) : (s.setCell c n x).pulp = s.pulp := rfl
@[simp] theorem State.setCell_vlt (c : UnitClass) (n : Nat) (x : Cell) : (s.setCell c n x).vlt = s.vlt := rfl
@[simp] theorem State.setCell_nv (c : UnitClass) (n : Nat) (x : Cell) : (s.setCell c n x).nv = s.nv := rfl
@[simp] theorem State.setCell_rng (c : UnitClass) (n : Nat) (x : Cell) : (s.setCell c n x).rng = s.rng := rfl
@[simp] theorem State.setCell_mp (c : UnitClass) (n : Nat) (x : Cell) : (s.setCell c n x).mp = s.mp := rfl
@[simp] theorem State.setCell_lc (c : UnitClass) (n : Nat) (x : Cell) : (s.setCell c n x).lc = s.lc := rfl
@[simp] theorem State.setCell_rnd (c : UnitClass) (n : Nat) (x : Cell) : (s.setCell c n x).rnd = s.rnd := rfl
@[simp] theorem State.setCell_flt (c : UnitClass) (n : Nat) (x : Cell) : (s.setCell c n x).flt = s.flt := rfl
@[simp] theorem State.setCell_log (c : UnitClass) (n : Nat) (x : Cell) : (s.setCell c n x).log = s.log := rfl
@[simp] theorem State.setCell_pwr (c : UnitClass) (n : Nat) (x : Cell) : (s.setCell c n x).pwr = s.pwr := rfl
@[simp] theorem State.setCell_grp (c : UnitClass) (n : Nat) (x : Cell) : (s.setCell c n x).grp = s.grp := rfl
@[simp] theorem State.setCell_sb (c : UnitClass) (n : Nat) (x : Cell) : (s.setCell c n x).sb = s.sb := rfl
@[simp] theorem State.setCell_tap (c : UnitClass) (n : Nat) (x : Cell) : (s.setCell c n x).tap = s.tap := rfl

/-! ## setGen -/

@[simp] theorem State.setGen_pending (k : Nat) (g : Gen) : (s.setGen k g).pending = s.pending := rfl
@[simp] theorem State.setGen_outbox (k : Nat) (g : Gen) : (s.setGen k g).outbox = s.outbox := rfl
@[simp] theorem State.setGen_free (k : Nat) (g : Gen) : (s.setGen k g).free = s.free := rfl
@[simp] theorem State.setGen_hif (k : Nat) (g : Gen) : (s.setGen k g).hif = s.hif := rfl
@[simp] theorem State.setGen_spdm (k : Nat) (g : Gen) : (s.setGen k g).spdm = s.spdm := rfl
@[simp] theorem State.setGen_fns (k : Nat) (g : Gen) : (s.setGen k g).fns = s.fns := rfl
@[simp] theorem State.setGen_qm (k : Nat) (g : Gen) : (s.setGen k g).qm = s.qm := rfl
@[simp] theorem State.setGen_orc (k : Nat) (g : Gen) : (s.setGen k g).orc = s.orc := rfl
@[simp] theorem State.setGen_eng (k : Nat) (g : Gen) : (s.setGen k g).eng = { s.eng with gens := Tab.put {} s.eng.gens k g } := rfl
@[simp] theorem State.setGen_hbm (k : Nat) (g : Gen) : (s.setGen k g).hbm = s.hbm := rfl
@[simp] theorem State.setGen_pulp (k : Nat) (g : Gen) : (s.setGen k g).pulp = s.pulp := rfl
@[simp] theorem State.setGen_vlt (k : Nat) (g : Gen) : (s.setGen k g).vlt = s.vlt := rfl
@[simp] theorem State.setGen_nv (k : Nat) (g : Gen) : (s.setGen k g).nv = s.nv := rfl
@[simp] theorem State.setGen_rng (k : Nat) (g : Gen) : (s.setGen k g).rng = s.rng := rfl
@[simp] theorem State.setGen_mp (k : Nat) (g : Gen) : (s.setGen k g).mp = s.mp := rfl
@[simp] theorem State.setGen_lc (k : Nat) (g : Gen) : (s.setGen k g).lc = s.lc := rfl
@[simp] theorem State.setGen_rnd (k : Nat) (g : Gen) : (s.setGen k g).rnd = s.rnd := rfl
@[simp] theorem State.setGen_flt (k : Nat) (g : Gen) : (s.setGen k g).flt = s.flt := rfl
@[simp] theorem State.setGen_log (k : Nat) (g : Gen) : (s.setGen k g).log = s.log := rfl
@[simp] theorem State.setGen_pwr (k : Nat) (g : Gen) : (s.setGen k g).pwr = s.pwr := rfl
@[simp] theorem State.setGen_grp (k : Nat) (g : Gen) : (s.setGen k g).grp = s.grp := rfl
@[simp] theorem State.setGen_sb (k : Nat) (g : Gen) : (s.setGen k g).sb = s.sb := rfl
@[simp] theorem State.setGen_tap (k : Nat) (g : Gen) : (s.setGen k g).tap = s.tap := rfl

/-! ## setCluster -/

@[simp] theorem State.setCluster_pending (k : Nat) (c : Cluster) : (s.setCluster k c).pending = s.pending := rfl
@[simp] theorem State.setCluster_outbox (k : Nat) (c : Cluster) : (s.setCluster k c).outbox = s.outbox := rfl
@[simp] theorem State.setCluster_free (k : Nat) (c : Cluster) : (s.setCluster k c).free = s.free := rfl
@[simp] theorem State.setCluster_hif (k : Nat) (c : Cluster) : (s.setCluster k c).hif = s.hif := rfl
@[simp] theorem State.setCluster_spdm (k : Nat) (c : Cluster) : (s.setCluster k c).spdm = s.spdm := rfl
@[simp] theorem State.setCluster_fns (k : Nat) (c : Cluster) : (s.setCluster k c).fns = s.fns := rfl
@[simp] theorem State.setCluster_qm (k : Nat) (c : Cluster) : (s.setCluster k c).qm = s.qm := rfl
@[simp] theorem State.setCluster_orc (k : Nat) (c : Cluster) : (s.setCluster k c).orc = s.orc := rfl
@[simp] theorem State.setCluster_eng (k : Nat) (c : Cluster) : (s.setCluster k c).eng = { s.eng with clusters := Tab.put {} s.eng.clusters k c } := rfl
@[simp] theorem State.setCluster_hbm (k : Nat) (c : Cluster) : (s.setCluster k c).hbm = s.hbm := rfl
@[simp] theorem State.setCluster_pulp (k : Nat) (c : Cluster) : (s.setCluster k c).pulp = s.pulp := rfl
@[simp] theorem State.setCluster_vlt (k : Nat) (c : Cluster) : (s.setCluster k c).vlt = s.vlt := rfl
@[simp] theorem State.setCluster_nv (k : Nat) (c : Cluster) : (s.setCluster k c).nv = s.nv := rfl
@[simp] theorem State.setCluster_rng (k : Nat) (c : Cluster) : (s.setCluster k c).rng = s.rng := rfl
@[simp] theorem State.setCluster_mp (k : Nat) (c : Cluster) : (s.setCluster k c).mp = s.mp := rfl
@[simp] theorem State.setCluster_lc (k : Nat) (c : Cluster) : (s.setCluster k c).lc = s.lc := rfl
@[simp] theorem State.setCluster_rnd (k : Nat) (c : Cluster) : (s.setCluster k c).rnd = s.rnd := rfl
@[simp] theorem State.setCluster_flt (k : Nat) (c : Cluster) : (s.setCluster k c).flt = s.flt := rfl
@[simp] theorem State.setCluster_log (k : Nat) (c : Cluster) : (s.setCluster k c).log = s.log := rfl
@[simp] theorem State.setCluster_pwr (k : Nat) (c : Cluster) : (s.setCluster k c).pwr = s.pwr := rfl
@[simp] theorem State.setCluster_grp (k : Nat) (c : Cluster) : (s.setCluster k c).grp = s.grp := rfl
@[simp] theorem State.setCluster_sb (k : Nat) (c : Cluster) : (s.setCluster k c).sb = s.sb := rfl
@[simp] theorem State.setCluster_tap (k : Nat) (c : Cluster) : (s.setCluster k c).tap = s.tap := rfl

/-! ## setEng -/

@[simp] theorem State.setEng_pending (e : Eng) : (s.setEng e).pending = s.pending := rfl
@[simp] theorem State.setEng_outbox (e : Eng) : (s.setEng e).outbox = s.outbox := rfl
@[simp] theorem State.setEng_free (e : Eng) : (s.setEng e).free = s.free := rfl
@[simp] theorem State.setEng_hif (e : Eng) : (s.setEng e).hif = s.hif := rfl
@[simp] theorem State.setEng_spdm (e : Eng) : (s.setEng e).spdm = s.spdm := rfl
@[simp] theorem State.setEng_fns (e : Eng) : (s.setEng e).fns = s.fns := rfl
@[simp] theorem State.setEng_qm (e : Eng) : (s.setEng e).qm = s.qm := rfl
@[simp] theorem State.setEng_orc (e : Eng) : (s.setEng e).orc = s.orc := rfl
@[simp] theorem State.setEng_eng (e : Eng) : (s.setEng e).eng = e := rfl
@[simp] theorem State.setEng_hbm (e : Eng) : (s.setEng e).hbm = s.hbm := rfl
@[simp] theorem State.setEng_pulp (e : Eng) : (s.setEng e).pulp = s.pulp := rfl
@[simp] theorem State.setEng_vlt (e : Eng) : (s.setEng e).vlt = s.vlt := rfl
@[simp] theorem State.setEng_nv (e : Eng) : (s.setEng e).nv = s.nv := rfl
@[simp] theorem State.setEng_rng (e : Eng) : (s.setEng e).rng = s.rng := rfl
@[simp] theorem State.setEng_mp (e : Eng) : (s.setEng e).mp = s.mp := rfl
@[simp] theorem State.setEng_lc (e : Eng) : (s.setEng e).lc = s.lc := rfl
@[simp] theorem State.setEng_rnd (e : Eng) : (s.setEng e).rnd = s.rnd := rfl
@[simp] theorem State.setEng_flt (e : Eng) : (s.setEng e).flt = s.flt := rfl
@[simp] theorem State.setEng_log (e : Eng) : (s.setEng e).log = s.log := rfl
@[simp] theorem State.setEng_pwr (e : Eng) : (s.setEng e).pwr = s.pwr := rfl
@[simp] theorem State.setEng_grp (e : Eng) : (s.setEng e).grp = s.grp := rfl
@[simp] theorem State.setEng_sb (e : Eng) : (s.setEng e).sb = s.sb := rfl
@[simp] theorem State.setEng_tap (e : Eng) : (s.setEng e).tap = s.tap := rfl

/-! ## setVlt -/

@[simp] theorem State.setVlt_pending (v : Vlt) : (s.setVlt v).pending = s.pending := rfl
@[simp] theorem State.setVlt_outbox (v : Vlt) : (s.setVlt v).outbox = s.outbox := rfl
@[simp] theorem State.setVlt_free (v : Vlt) : (s.setVlt v).free = s.free := rfl
@[simp] theorem State.setVlt_hif (v : Vlt) : (s.setVlt v).hif = s.hif := rfl
@[simp] theorem State.setVlt_spdm (v : Vlt) : (s.setVlt v).spdm = s.spdm := rfl
@[simp] theorem State.setVlt_fns (v : Vlt) : (s.setVlt v).fns = s.fns := rfl
@[simp] theorem State.setVlt_qm (v : Vlt) : (s.setVlt v).qm = s.qm := rfl
@[simp] theorem State.setVlt_orc (v : Vlt) : (s.setVlt v).orc = s.orc := rfl
@[simp] theorem State.setVlt_eng (v : Vlt) : (s.setVlt v).eng = s.eng := rfl
@[simp] theorem State.setVlt_hbm (v : Vlt) : (s.setVlt v).hbm = s.hbm := rfl
@[simp] theorem State.setVlt_pulp (v : Vlt) : (s.setVlt v).pulp = s.pulp := rfl
@[simp] theorem State.setVlt_vlt (v : Vlt) : (s.setVlt v).vlt = v := rfl
@[simp] theorem State.setVlt_nv (v : Vlt) : (s.setVlt v).nv = s.nv := rfl
@[simp] theorem State.setVlt_rng (v : Vlt) : (s.setVlt v).rng = s.rng := rfl
@[simp] theorem State.setVlt_mp (v : Vlt) : (s.setVlt v).mp = s.mp := rfl
@[simp] theorem State.setVlt_lc (v : Vlt) : (s.setVlt v).lc = s.lc := rfl
@[simp] theorem State.setVlt_rnd (v : Vlt) : (s.setVlt v).rnd = s.rnd := rfl
@[simp] theorem State.setVlt_flt (v : Vlt) : (s.setVlt v).flt = s.flt := rfl
@[simp] theorem State.setVlt_log (v : Vlt) : (s.setVlt v).log = s.log := rfl
@[simp] theorem State.setVlt_pwr (v : Vlt) : (s.setVlt v).pwr = s.pwr := rfl
@[simp] theorem State.setVlt_grp (v : Vlt) : (s.setVlt v).grp = s.grp := rfl
@[simp] theorem State.setVlt_sb (v : Vlt) : (s.setVlt v).sb = s.sb := rfl
@[simp] theorem State.setVlt_tap (v : Vlt) : (s.setVlt v).tap = s.tap := rfl

/-! ## setPulp -/

@[simp] theorem State.setPulp_pending (p : Pulp) : (s.setPulp p).pending = s.pending := rfl
@[simp] theorem State.setPulp_outbox (p : Pulp) : (s.setPulp p).outbox = s.outbox := rfl
@[simp] theorem State.setPulp_free (p : Pulp) : (s.setPulp p).free = s.free := rfl
@[simp] theorem State.setPulp_hif (p : Pulp) : (s.setPulp p).hif = s.hif := rfl
@[simp] theorem State.setPulp_spdm (p : Pulp) : (s.setPulp p).spdm = s.spdm := rfl
@[simp] theorem State.setPulp_fns (p : Pulp) : (s.setPulp p).fns = s.fns := rfl
@[simp] theorem State.setPulp_qm (p : Pulp) : (s.setPulp p).qm = s.qm := rfl
@[simp] theorem State.setPulp_orc (p : Pulp) : (s.setPulp p).orc = s.orc := rfl
@[simp] theorem State.setPulp_eng (p : Pulp) : (s.setPulp p).eng = s.eng := rfl
@[simp] theorem State.setPulp_hbm (p : Pulp) : (s.setPulp p).hbm = s.hbm := rfl
@[simp] theorem State.setPulp_pulp (p : Pulp) : (s.setPulp p).pulp = p := rfl
@[simp] theorem State.setPulp_vlt (p : Pulp) : (s.setPulp p).vlt = s.vlt := rfl
@[simp] theorem State.setPulp_nv (p : Pulp) : (s.setPulp p).nv = s.nv := rfl
@[simp] theorem State.setPulp_rng (p : Pulp) : (s.setPulp p).rng = s.rng := rfl
@[simp] theorem State.setPulp_mp (p : Pulp) : (s.setPulp p).mp = s.mp := rfl
@[simp] theorem State.setPulp_lc (p : Pulp) : (s.setPulp p).lc = s.lc := rfl
@[simp] theorem State.setPulp_rnd (p : Pulp) : (s.setPulp p).rnd = s.rnd := rfl
@[simp] theorem State.setPulp_flt (p : Pulp) : (s.setPulp p).flt = s.flt := rfl
@[simp] theorem State.setPulp_log (p : Pulp) : (s.setPulp p).log = s.log := rfl
@[simp] theorem State.setPulp_pwr (p : Pulp) : (s.setPulp p).pwr = s.pwr := rfl
@[simp] theorem State.setPulp_grp (p : Pulp) : (s.setPulp p).grp = s.grp := rfl
@[simp] theorem State.setPulp_sb (p : Pulp) : (s.setPulp p).sb = s.sb := rfl
@[simp] theorem State.setPulp_tap (p : Pulp) : (s.setPulp p).tap = s.tap := rfl

/-! ## setGrp -/

@[simp] theorem State.setGrp_pending (g : Grp) : (s.setGrp g).pending = s.pending := rfl
@[simp] theorem State.setGrp_outbox (g : Grp) : (s.setGrp g).outbox = s.outbox := rfl
@[simp] theorem State.setGrp_free (g : Grp) : (s.setGrp g).free = s.free := rfl
@[simp] theorem State.setGrp_hif (g : Grp) : (s.setGrp g).hif = s.hif := rfl
@[simp] theorem State.setGrp_spdm (g : Grp) : (s.setGrp g).spdm = s.spdm := rfl
@[simp] theorem State.setGrp_fns (g : Grp) : (s.setGrp g).fns = s.fns := rfl
@[simp] theorem State.setGrp_qm (g : Grp) : (s.setGrp g).qm = s.qm := rfl
@[simp] theorem State.setGrp_orc (g : Grp) : (s.setGrp g).orc = s.orc := rfl
@[simp] theorem State.setGrp_eng (g : Grp) : (s.setGrp g).eng = s.eng := rfl
@[simp] theorem State.setGrp_hbm (g : Grp) : (s.setGrp g).hbm = s.hbm := rfl
@[simp] theorem State.setGrp_pulp (g : Grp) : (s.setGrp g).pulp = s.pulp := rfl
@[simp] theorem State.setGrp_vlt (g : Grp) : (s.setGrp g).vlt = s.vlt := rfl
@[simp] theorem State.setGrp_nv (g : Grp) : (s.setGrp g).nv = s.nv := rfl
@[simp] theorem State.setGrp_rng (g : Grp) : (s.setGrp g).rng = s.rng := rfl
@[simp] theorem State.setGrp_mp (g : Grp) : (s.setGrp g).mp = s.mp := rfl
@[simp] theorem State.setGrp_lc (g : Grp) : (s.setGrp g).lc = s.lc := rfl
@[simp] theorem State.setGrp_rnd (g : Grp) : (s.setGrp g).rnd = s.rnd := rfl
@[simp] theorem State.setGrp_flt (g : Grp) : (s.setGrp g).flt = s.flt := rfl
@[simp] theorem State.setGrp_log (g : Grp) : (s.setGrp g).log = s.log := rfl
@[simp] theorem State.setGrp_pwr (g : Grp) : (s.setGrp g).pwr = s.pwr := rfl
@[simp] theorem State.setGrp_grp (g : Grp) : (s.setGrp g).grp = g := rfl
@[simp] theorem State.setGrp_sb (g : Grp) : (s.setGrp g).sb = s.sb := rfl
@[simp] theorem State.setGrp_tap (g : Grp) : (s.setGrp g).tap = s.tap := rfl

/-! ## setPeer -/

@[simp] theorem State.setPeer_pending (i : Nat) (p : Peer) : (s.setPeer i p).pending = s.pending := rfl
@[simp] theorem State.setPeer_outbox (i : Nat) (p : Peer) : (s.setPeer i p).outbox = s.outbox := rfl
@[simp] theorem State.setPeer_free (i : Nat) (p : Peer) : (s.setPeer i p).free = s.free := rfl
@[simp] theorem State.setPeer_hif (i : Nat) (p : Peer) : (s.setPeer i p).hif = s.hif := rfl
@[simp] theorem State.setPeer_spdm (i : Nat) (p : Peer) : (s.setPeer i p).spdm = s.spdm := rfl
@[simp] theorem State.setPeer_fns (i : Nat) (p : Peer) : (s.setPeer i p).fns = s.fns := rfl
@[simp] theorem State.setPeer_qm (i : Nat) (p : Peer) : (s.setPeer i p).qm = s.qm := rfl
@[simp] theorem State.setPeer_orc (i : Nat) (p : Peer) : (s.setPeer i p).orc = s.orc := rfl
@[simp] theorem State.setPeer_eng (i : Nat) (p : Peer) : (s.setPeer i p).eng = s.eng := rfl
@[simp] theorem State.setPeer_hbm (i : Nat) (p : Peer) : (s.setPeer i p).hbm = s.hbm := rfl
@[simp] theorem State.setPeer_pulp (i : Nat) (p : Peer) : (s.setPeer i p).pulp = s.pulp := rfl
@[simp] theorem State.setPeer_vlt (i : Nat) (p : Peer) : (s.setPeer i p).vlt = s.vlt := rfl
@[simp] theorem State.setPeer_nv (i : Nat) (p : Peer) : (s.setPeer i p).nv = s.nv := rfl
@[simp] theorem State.setPeer_rng (i : Nat) (p : Peer) : (s.setPeer i p).rng = s.rng := rfl
@[simp] theorem State.setPeer_mp (i : Nat) (p : Peer) : (s.setPeer i p).mp = s.mp := rfl
@[simp] theorem State.setPeer_lc (i : Nat) (p : Peer) : (s.setPeer i p).lc = s.lc := rfl
@[simp] theorem State.setPeer_rnd (i : Nat) (p : Peer) : (s.setPeer i p).rnd = s.rnd := rfl
@[simp] theorem State.setPeer_flt (i : Nat) (p : Peer) : (s.setPeer i p).flt = s.flt := rfl
@[simp] theorem State.setPeer_log (i : Nat) (p : Peer) : (s.setPeer i p).log = s.log := rfl
@[simp] theorem State.setPeer_pwr (i : Nat) (p : Peer) : (s.setPeer i p).pwr = s.pwr := rfl
@[simp] theorem State.setPeer_grp (i : Nat) (p : Peer) : (s.setPeer i p).grp = { s.grp with peers := Tab.put {} s.grp.peers i p } := rfl
@[simp] theorem State.setPeer_sb (i : Nat) (p : Peer) : (s.setPeer i p).sb = s.sb := rfl
@[simp] theorem State.setPeer_tap (i : Nat) (p : Peer) : (s.setPeer i p).tap = s.tap := rfl

/-! ## setSrc -/

@[simp] theorem State.setSrc_pending (n : Nat) (x : SrcRec) : (s.setSrc n x).pending = s.pending := rfl
@[simp] theorem State.setSrc_outbox (n : Nat) (x : SrcRec) : (s.setSrc n x).outbox = s.outbox := rfl
@[simp] theorem State.setSrc_free (n : Nat) (x : SrcRec) : (s.setSrc n x).free = s.free := rfl
@[simp] theorem State.setSrc_hif (n : Nat) (x : SrcRec) : (s.setSrc n x).hif = s.hif := rfl
@[simp] theorem State.setSrc_spdm (n : Nat) (x : SrcRec) : (s.setSrc n x).spdm = s.spdm := rfl
@[simp] theorem State.setSrc_fns (n : Nat) (x : SrcRec) : (s.setSrc n x).fns = s.fns := rfl
@[simp] theorem State.setSrc_qm (n : Nat) (x : SrcRec) : (s.setSrc n x).qm = s.qm := rfl
@[simp] theorem State.setSrc_orc (n : Nat) (x : SrcRec) : (s.setSrc n x).orc = s.orc := rfl
@[simp] theorem State.setSrc_eng (n : Nat) (x : SrcRec) : (s.setSrc n x).eng = s.eng := rfl
@[simp] theorem State.setSrc_hbm (n : Nat) (x : SrcRec) : (s.setSrc n x).hbm = s.hbm := rfl
@[simp] theorem State.setSrc_pulp (n : Nat) (x : SrcRec) : (s.setSrc n x).pulp = s.pulp := rfl
@[simp] theorem State.setSrc_vlt (n : Nat) (x : SrcRec) : (s.setSrc n x).vlt = s.vlt := rfl
@[simp] theorem State.setSrc_nv (n : Nat) (x : SrcRec) : (s.setSrc n x).nv = s.nv := rfl
@[simp] theorem State.setSrc_rng (n : Nat) (x : SrcRec) : (s.setSrc n x).rng = s.rng := rfl
@[simp] theorem State.setSrc_mp (n : Nat) (x : SrcRec) : (s.setSrc n x).mp = s.mp := rfl
@[simp] theorem State.setSrc_lc (n : Nat) (x : SrcRec) : (s.setSrc n x).lc = s.lc := rfl
@[simp] theorem State.setSrc_rnd (n : Nat) (x : SrcRec) : (s.setSrc n x).rnd = s.rnd := rfl
@[simp] theorem State.setSrc_flt (n : Nat) (x : SrcRec) : (s.setSrc n x).flt = { s.flt with srcs := Tab.put {} s.flt.srcs n x } := rfl
@[simp] theorem State.setSrc_log (n : Nat) (x : SrcRec) : (s.setSrc n x).log = s.log := rfl
@[simp] theorem State.setSrc_pwr (n : Nat) (x : SrcRec) : (s.setSrc n x).pwr = s.pwr := rfl
@[simp] theorem State.setSrc_grp (n : Nat) (x : SrcRec) : (s.setSrc n x).grp = s.grp := rfl
@[simp] theorem State.setSrc_sb (n : Nat) (x : SrcRec) : (s.setSrc n x).sb = s.sb := rfl
@[simp] theorem State.setSrc_tap (n : Nat) (x : SrcRec) : (s.setSrc n x).tap = s.tap := rfl

/-! ## setSource -/

@[simp] theorem State.setSource_pending (i : Nat) (x : Src) : (s.setSource i x).pending = s.pending := rfl
@[simp] theorem State.setSource_outbox (i : Nat) (x : Src) : (s.setSource i x).outbox = s.outbox := rfl
@[simp] theorem State.setSource_free (i : Nat) (x : Src) : (s.setSource i x).free = s.free := rfl
@[simp] theorem State.setSource_hif (i : Nat) (x : Src) : (s.setSource i x).hif = s.hif := rfl
@[simp] theorem State.setSource_spdm (i : Nat) (x : Src) : (s.setSource i x).spdm = s.spdm := rfl
@[simp] theorem State.setSource_fns (i : Nat) (x : Src) : (s.setSource i x).fns = s.fns := rfl
@[simp] theorem State.setSource_qm (i : Nat) (x : Src) : (s.setSource i x).qm = s.qm := rfl
@[simp] theorem State.setSource_orc (i : Nat) (x : Src) : (s.setSource i x).orc = s.orc := rfl
@[simp] theorem State.setSource_eng (i : Nat) (x : Src) : (s.setSource i x).eng = s.eng := rfl
@[simp] theorem State.setSource_hbm (i : Nat) (x : Src) : (s.setSource i x).hbm = s.hbm := rfl
@[simp] theorem State.setSource_pulp (i : Nat) (x : Src) : (s.setSource i x).pulp = s.pulp := rfl
@[simp] theorem State.setSource_vlt (i : Nat) (x : Src) : (s.setSource i x).vlt = s.vlt := rfl
@[simp] theorem State.setSource_nv (i : Nat) (x : Src) : (s.setSource i x).nv = s.nv := rfl
@[simp] theorem State.setSource_rng (i : Nat) (x : Src) : (s.setSource i x).rng = { s.rng with srcs := s.rng.srcs.set i x } := rfl
@[simp] theorem State.setSource_mp (i : Nat) (x : Src) : (s.setSource i x).mp = s.mp := rfl
@[simp] theorem State.setSource_lc (i : Nat) (x : Src) : (s.setSource i x).lc = s.lc := rfl
@[simp] theorem State.setSource_rnd (i : Nat) (x : Src) : (s.setSource i x).rnd = s.rnd := rfl
@[simp] theorem State.setSource_flt (i : Nat) (x : Src) : (s.setSource i x).flt = s.flt := rfl
@[simp] theorem State.setSource_log (i : Nat) (x : Src) : (s.setSource i x).log = s.log := rfl
@[simp] theorem State.setSource_pwr (i : Nat) (x : Src) : (s.setSource i x).pwr = s.pwr := rfl
@[simp] theorem State.setSource_grp (i : Nat) (x : Src) : (s.setSource i x).grp = s.grp := rfl
@[simp] theorem State.setSource_sb (i : Nat) (x : Src) : (s.setSource i x).sb = s.sb := rfl
@[simp] theorem State.setSource_tap (i : Nat) (x : Src) : (s.setSource i x).tap = s.tap := rfl

/-! ## setItem -/

@[simp] theorem State.setItem_pending (it : Item) : (s.setItem it).pending = s.pending := rfl
@[simp] theorem State.setItem_outbox (it : Item) : (s.setItem it).outbox = s.outbox := rfl
@[simp] theorem State.setItem_free (it : Item) : (s.setItem it).free = s.free := rfl
@[simp] theorem State.setItem_hif (it : Item) : (s.setItem it).hif = s.hif := rfl
@[simp] theorem State.setItem_spdm (it : Item) : (s.setItem it).spdm = s.spdm := rfl
@[simp] theorem State.setItem_fns (it : Item) : (s.setItem it).fns = s.fns := rfl
@[simp] theorem State.setItem_qm (it : Item) : (s.setItem it).qm = s.qm := rfl
@[simp] theorem State.setItem_orc (it : Item) : (s.setItem it).orc = { s.orc with items := s.orc.items.map (fun x => if x.seq = it.seq then it else x) } := rfl
@[simp] theorem State.setItem_eng (it : Item) : (s.setItem it).eng = s.eng := rfl
@[simp] theorem State.setItem_hbm (it : Item) : (s.setItem it).hbm = s.hbm := rfl
@[simp] theorem State.setItem_pulp (it : Item) : (s.setItem it).pulp = s.pulp := rfl
@[simp] theorem State.setItem_vlt (it : Item) : (s.setItem it).vlt = s.vlt := rfl
@[simp] theorem State.setItem_nv (it : Item) : (s.setItem it).nv = s.nv := rfl
@[simp] theorem State.setItem_rng (it : Item) : (s.setItem it).rng = s.rng := rfl
@[simp] theorem State.setItem_mp (it : Item) : (s.setItem it).mp = s.mp := rfl
@[simp] theorem State.setItem_lc (it : Item) : (s.setItem it).lc = s.lc := rfl
@[simp] theorem State.setItem_rnd (it : Item) : (s.setItem it).rnd = s.rnd := rfl
@[simp] theorem State.setItem_flt (it : Item) : (s.setItem it).flt = s.flt := rfl
@[simp] theorem State.setItem_log (it : Item) : (s.setItem it).log = s.log := rfl
@[simp] theorem State.setItem_pwr (it : Item) : (s.setItem it).pwr = s.pwr := rfl
@[simp] theorem State.setItem_grp (it : Item) : (s.setItem it).grp = s.grp := rfl
@[simp] theorem State.setItem_sb (it : Item) : (s.setItem it).sb = s.sb := rfl
@[simp] theorem State.setItem_tap (it : Item) : (s.setItem it).tap = s.tap := rfl

/-! ## dropItem -/

@[simp] theorem State.dropItem_pending (seq : Nat) : (s.dropItem seq).pending = s.pending := rfl
@[simp] theorem State.dropItem_outbox (seq : Nat) : (s.dropItem seq).outbox = s.outbox := rfl
@[simp] theorem State.dropItem_free (seq : Nat) : (s.dropItem seq).free = s.free := rfl
@[simp] theorem State.dropItem_hif (seq : Nat) : (s.dropItem seq).hif = s.hif := rfl
@[simp] theorem State.dropItem_spdm (seq : Nat) : (s.dropItem seq).spdm = s.spdm := rfl
@[simp] theorem State.dropItem_fns (seq : Nat) : (s.dropItem seq).fns = s.fns := rfl
@[simp] theorem State.dropItem_qm (seq : Nat) : (s.dropItem seq).qm = s.qm := rfl
@[simp] theorem State.dropItem_orc (seq : Nat) : (s.dropItem seq).orc = { s.orc with items := s.orc.items.filter (fun x => x.seq != seq) } := rfl
@[simp] theorem State.dropItem_eng (seq : Nat) : (s.dropItem seq).eng = { s.eng with slots := s.eng.slots.filter (fun c => c.seq != seq) } := rfl
@[simp] theorem State.dropItem_hbm (seq : Nat) : (s.dropItem seq).hbm = { s.hbm with sealed := s.hbm.sealed.filter (fun x => x.seq != seq) } := rfl
@[simp] theorem State.dropItem_pulp (seq : Nat) : (s.dropItem seq).pulp = s.pulp := rfl
@[simp] theorem State.dropItem_vlt (seq : Nat) : (s.dropItem seq).vlt = s.vlt := rfl
@[simp] theorem State.dropItem_nv (seq : Nat) : (s.dropItem seq).nv = s.nv := rfl
@[simp] theorem State.dropItem_rng (seq : Nat) : (s.dropItem seq).rng = s.rng := rfl
@[simp] theorem State.dropItem_mp (seq : Nat) : (s.dropItem seq).mp = s.mp := rfl
@[simp] theorem State.dropItem_lc (seq : Nat) : (s.dropItem seq).lc = s.lc := rfl
@[simp] theorem State.dropItem_rnd (seq : Nat) : (s.dropItem seq).rnd = s.rnd := rfl
@[simp] theorem State.dropItem_flt (seq : Nat) : (s.dropItem seq).flt = s.flt := rfl
@[simp] theorem State.dropItem_log (seq : Nat) : (s.dropItem seq).log = s.log := rfl
@[simp] theorem State.dropItem_pwr (seq : Nat) : (s.dropItem seq).pwr = s.pwr := rfl
@[simp] theorem State.dropItem_grp (seq : Nat) : (s.dropItem seq).grp = s.grp := rfl
@[simp] theorem State.dropItem_sb (seq : Nat) : (s.dropItem seq).sb = s.sb := rfl
@[simp] theorem State.dropItem_tap (seq : Nat) : (s.dropItem seq).tap = s.tap := rfl

/-! ## setQp -/

@[simp] theorem State.setQp_pending (f q : Nat) (p : Qp) : (s.setQp f q p).pending = s.pending := by unfold State.setQp; split <;> rfl
@[simp] theorem State.setQp_outbox (f q : Nat) (p : Qp) : (s.setQp f q p).outbox = s.outbox := by unfold State.setQp; split <;> rfl
@[simp] theorem State.setQp_free (f q : Nat) (p : Qp) : (s.setQp f q p).free = s.free := by unfold State.setQp; split <;> rfl
@[simp] theorem State.setQp_hif (f q : Nat) (p : Qp) : (s.setQp f q p).hif = s.hif := by unfold State.setQp; split <;> rfl
@[simp] theorem State.setQp_spdm (f q : Nat) (p : Qp) : (s.setQp f q p).spdm = s.spdm := by unfold State.setQp; split <;> rfl
@[simp] theorem State.setQp_fns (f q : Nat) (p : Qp) : (s.setQp f q p).fns = s.fns := by unfold State.setQp; split <;> rfl
@[simp] theorem State.setQp_orc (f q : Nat) (p : Qp) : (s.setQp f q p).orc = s.orc := by unfold State.setQp; split <;> rfl
@[simp] theorem State.setQp_eng (f q : Nat) (p : Qp) : (s.setQp f q p).eng = s.eng := by unfold State.setQp; split <;> rfl
@[simp] theorem State.setQp_hbm (f q : Nat) (p : Qp) : (s.setQp f q p).hbm = s.hbm := by unfold State.setQp; split <;> rfl
@[simp] theorem State.setQp_pulp (f q : Nat) (p : Qp) : (s.setQp f q p).pulp = s.pulp := by unfold State.setQp; split <;> rfl
@[simp] theorem State.setQp_vlt (f q : Nat) (p : Qp) : (s.setQp f q p).vlt = s.vlt := by unfold State.setQp; split <;> rfl
@[simp] theorem State.setQp_nv (f q : Nat) (p : Qp) : (s.setQp f q p).nv = s.nv := by unfold State.setQp; split <;> rfl
@[simp] theorem State.setQp_rng (f q : Nat) (p : Qp) : (s.setQp f q p).rng = s.rng := by unfold State.setQp; split <;> rfl
@[simp] theorem State.setQp_mp (f q : Nat) (p : Qp) : (s.setQp f q p).mp = s.mp := by unfold State.setQp; split <;> rfl
@[simp] theorem State.setQp_lc (f q : Nat) (p : Qp) : (s.setQp f q p).lc = s.lc := by unfold State.setQp; split <;> rfl
@[simp] theorem State.setQp_rnd (f q : Nat) (p : Qp) : (s.setQp f q p).rnd = s.rnd := by unfold State.setQp; split <;> rfl
@[simp] theorem State.setQp_flt (f q : Nat) (p : Qp) : (s.setQp f q p).flt = s.flt := by unfold State.setQp; split <;> rfl
@[simp] theorem State.setQp_log (f q : Nat) (p : Qp) : (s.setQp f q p).log = s.log := by unfold State.setQp; split <;> rfl
@[simp] theorem State.setQp_pwr (f q : Nat) (p : Qp) : (s.setQp f q p).pwr = s.pwr := by unfold State.setQp; split <;> rfl
@[simp] theorem State.setQp_grp (f q : Nat) (p : Qp) : (s.setQp f q p).grp = s.grp := by unfold State.setQp; split <;> rfl
@[simp] theorem State.setQp_sb (f q : Nat) (p : Qp) : (s.setQp f q p).sb = s.sb := by unfold State.setQp; split <;> rfl
@[simp] theorem State.setQp_tap (f q : Nat) (p : Qp) : (s.setQp f q p).tap = s.tap := by unfold State.setQp; split <;> rfl

/-! ## setSlot -/

@[simp] theorem State.setSlot_pending (t n : Nat) (x : VSlot) : (s.setSlot t n x).pending = s.pending := by unfold State.setSlot; split <;> rfl
@[simp] theorem State.setSlot_outbox (t n : Nat) (x : VSlot) : (s.setSlot t n x).outbox = s.outbox := by unfold State.setSlot; split <;> rfl
@[simp] theorem State.setSlot_free (t n : Nat) (x : VSlot) : (s.setSlot t n x).free = s.free := by unfold State.setSlot; split <;> rfl
@[simp] theorem State.setSlot_hif (t n : Nat) (x : VSlot) : (s.setSlot t n x).hif = s.hif := by unfold State.setSlot; split <;> rfl
@[simp] theorem State.setSlot_spdm (t n : Nat) (x : VSlot) : (s.setSlot t n x).spdm = s.spdm := by unfold State.setSlot; split <;> rfl
@[simp] theorem State.setSlot_fns (t n : Nat) (x : VSlot) : (s.setSlot t n x).fns = s.fns := by unfold State.setSlot; split <;> rfl
@[simp] theorem State.setSlot_qm (t n : Nat) (x : VSlot) : (s.setSlot t n x).qm = s.qm := by unfold State.setSlot; split <;> rfl
@[simp] theorem State.setSlot_orc (t n : Nat) (x : VSlot) : (s.setSlot t n x).orc = s.orc := by unfold State.setSlot; split <;> rfl
@[simp] theorem State.setSlot_eng (t n : Nat) (x : VSlot) : (s.setSlot t n x).eng = s.eng := by unfold State.setSlot; split <;> rfl
@[simp] theorem State.setSlot_hbm (t n : Nat) (x : VSlot) : (s.setSlot t n x).hbm = s.hbm := by unfold State.setSlot; split <;> rfl
@[simp] theorem State.setSlot_pulp (t n : Nat) (x : VSlot) : (s.setSlot t n x).pulp = s.pulp := by unfold State.setSlot; split <;> rfl
@[simp] theorem State.setSlot_nv (t n : Nat) (x : VSlot) : (s.setSlot t n x).nv = s.nv := by unfold State.setSlot; split <;> rfl
@[simp] theorem State.setSlot_rng (t n : Nat) (x : VSlot) : (s.setSlot t n x).rng = s.rng := by unfold State.setSlot; split <;> rfl
@[simp] theorem State.setSlot_mp (t n : Nat) (x : VSlot) : (s.setSlot t n x).mp = s.mp := by unfold State.setSlot; split <;> rfl
@[simp] theorem State.setSlot_lc (t n : Nat) (x : VSlot) : (s.setSlot t n x).lc = s.lc := by unfold State.setSlot; split <;> rfl
@[simp] theorem State.setSlot_rnd (t n : Nat) (x : VSlot) : (s.setSlot t n x).rnd = s.rnd := by unfold State.setSlot; split <;> rfl
@[simp] theorem State.setSlot_flt (t n : Nat) (x : VSlot) : (s.setSlot t n x).flt = s.flt := by unfold State.setSlot; split <;> rfl
@[simp] theorem State.setSlot_log (t n : Nat) (x : VSlot) : (s.setSlot t n x).log = s.log := by unfold State.setSlot; split <;> rfl
@[simp] theorem State.setSlot_pwr (t n : Nat) (x : VSlot) : (s.setSlot t n x).pwr = s.pwr := by unfold State.setSlot; split <;> rfl
@[simp] theorem State.setSlot_grp (t n : Nat) (x : VSlot) : (s.setSlot t n x).grp = s.grp := by unfold State.setSlot; split <;> rfl
@[simp] theorem State.setSlot_sb (t n : Nat) (x : VSlot) : (s.setSlot t n x).sb = s.sb := by unfold State.setSlot; split <;> rfl
@[simp] theorem State.setSlot_tap (t n : Nat) (x : VSlot) : (s.setSlot t n x).tap = s.tap := by unfold State.setSlot; split <;> rfl

/-! ## setBlob -/

@[simp] theorem State.setBlob_pending (t n : Nat) (x : Blob) : (s.setBlob t n x).pending = s.pending := by unfold State.setBlob; split <;> rfl
@[simp] theorem State.setBlob_outbox (t n : Nat) (x : Blob) : (s.setBlob t n x).outbox = s.outbox := by unfold State.setBlob; split <;> rfl
@[simp] theorem State.setBlob_free (t n : Nat) (x : Blob) : (s.setBlob t n x).free = s.free := by unfold State.setBlob; split <;> rfl
@[simp] theorem State.setBlob_hif (t n : Nat) (x : Blob) : (s.setBlob t n x).hif = s.hif := by unfold State.setBlob; split <;> rfl
@[simp] theorem State.setBlob_spdm (t n : Nat) (x : Blob) : (s.setBlob t n x).spdm = s.spdm := by unfold State.setBlob; split <;> rfl
@[simp] theorem State.setBlob_fns (t n : Nat) (x : Blob) : (s.setBlob t n x).fns = s.fns := by unfold State.setBlob; split <;> rfl
@[simp] theorem State.setBlob_qm (t n : Nat) (x : Blob) : (s.setBlob t n x).qm = s.qm := by unfold State.setBlob; split <;> rfl
@[simp] theorem State.setBlob_orc (t n : Nat) (x : Blob) : (s.setBlob t n x).orc = s.orc := by unfold State.setBlob; split <;> rfl
@[simp] theorem State.setBlob_eng (t n : Nat) (x : Blob) : (s.setBlob t n x).eng = s.eng := by unfold State.setBlob; split <;> rfl
@[simp] theorem State.setBlob_hbm (t n : Nat) (x : Blob) : (s.setBlob t n x).hbm = s.hbm := by unfold State.setBlob; split <;> rfl
@[simp] theorem State.setBlob_pulp (t n : Nat) (x : Blob) : (s.setBlob t n x).pulp = s.pulp := by unfold State.setBlob; split <;> rfl
@[simp] theorem State.setBlob_nv (t n : Nat) (x : Blob) : (s.setBlob t n x).nv = s.nv := by unfold State.setBlob; split <;> rfl
@[simp] theorem State.setBlob_rng (t n : Nat) (x : Blob) : (s.setBlob t n x).rng = s.rng := by unfold State.setBlob; split <;> rfl
@[simp] theorem State.setBlob_mp (t n : Nat) (x : Blob) : (s.setBlob t n x).mp = s.mp := by unfold State.setBlob; split <;> rfl
@[simp] theorem State.setBlob_lc (t n : Nat) (x : Blob) : (s.setBlob t n x).lc = s.lc := by unfold State.setBlob; split <;> rfl
@[simp] theorem State.setBlob_rnd (t n : Nat) (x : Blob) : (s.setBlob t n x).rnd = s.rnd := by unfold State.setBlob; split <;> rfl
@[simp] theorem State.setBlob_flt (t n : Nat) (x : Blob) : (s.setBlob t n x).flt = s.flt := by unfold State.setBlob; split <;> rfl
@[simp] theorem State.setBlob_log (t n : Nat) (x : Blob) : (s.setBlob t n x).log = s.log := by unfold State.setBlob; split <;> rfl
@[simp] theorem State.setBlob_pwr (t n : Nat) (x : Blob) : (s.setBlob t n x).pwr = s.pwr := by unfold State.setBlob; split <;> rfl
@[simp] theorem State.setBlob_grp (t n : Nat) (x : Blob) : (s.setBlob t n x).grp = s.grp := by unfold State.setBlob; split <;> rfl
@[simp] theorem State.setBlob_sb (t n : Nat) (x : Blob) : (s.setBlob t n x).sb = s.sb := by unfold State.setBlob; split <;> rfl
@[simp] theorem State.setBlob_tap (t n : Nat) (x : Blob) : (s.setBlob t n x).tap = s.tap := by unfold State.setBlob; split <;> rfl

end Sys2Proof.Machine
end

