-- ==== Sys2Proof/Laws/GrowsBase.lean ====
section
/-! SUPPORT. What an operation may do to one-time programmable memory, to the queue and to what a boot has loaded, said once
for each operation: `s.Grows q t` says that `t` has the queue of `s` and no OTP burn fewer, and with `q` that the rows, the
link and the loaded configuration are the same. -/

namespace Sys2Proof.Machine

/-- Every bit of one word is set in another. -/
def BLe {w : Nat} (a b : BitVec w) : Prop := ∀ i, a.getLsbD i = true → b.getLsbD i = true

theorem BLe.refl {w : Nat} (a : BitVec w) : BLe a a := fun _ h => h

theorem BLe.trans {w : Nat} {a b c : BitVec w} (h : BLe a b) (k : BLe b c) : BLe a c := fun i x => k i (h i x)

/-- The queue stays. -/
def PendLe (_q : Bool) (a b : List Instr) : Prop := b = a

/-- The rows and the key hash of the life-cycle area grow from `a` to `b`; with `q` they stay. -/
def LcLe (q : Bool) (a b : Lc) : Prop :=
  BLe a.started b.started ∧ BLe a.complete b.complete ∧ (BLe a.complete a.started → BLe b.complete b.started)
    ∧ (q = true → b.started = a.started ∧ b.complete = a.complete ∧ b.ikh = a.ikh)

def NvLe (q : Bool) (a b : Nv) : Prop :=
  BLe a.fuses b.fuses ∧ a.svnMin ≤ b.svnMin ∧ (q = true → b.fuses = a.fuses ∧ b.svnMin = a.svnMin)

def HifLe (q : Bool) (a b : Hif) : Prop := q = true → b = a

def PwrLe (q : Bool) (a b : Pwr) : Prop :=
  q = true → b.rootLock = a.rootLock ∧ b.perst = a.perst ∧ b.held = a.held ∧ b.main = a.main ∧ b.vaon = a.vaon ∧ b.extest = a.extest

def FltLe (q : Bool) (a b : Flt) : Prop := q = true → b.cfgLoaded = a.cfgLoaded

def RndLe (q : Bool) (a b : Rnd) : Prop := q = true → b.configValid = a.configValid ∧ b.stored = a.stored

def HbmLe (q : Bool) (a b : Hbm) : Prop := q = true → b.trained = a.trained

/-- `t` comes from `s` by operations that leave the queue, burn no row back and, with `q`, leave the rows, the link, the
supplies and what a boot loads. -/
structure State.Grows (q : Bool) (s t : State) : Prop where
  pending : PendLe q s.pending t.pending
  lc : LcLe q s.lc t.lc
  nv : NvLe q s.nv t.nv
  hif : HifLe q s.hif t.hif
  pwr : PwrLe q s.pwr t.pwr
  flt : FltLe q s.flt t.flt
  rnd : RndLe q s.rnd t.rnd
  hbm : HbmLe q s.hbm t.hbm

variable {q : Bool} {s x : State}

theorem LcLe.refl (a : Lc) : LcLe q a a := ⟨.refl _, .refl _, id, fun _ => ⟨rfl, rfl, rfl⟩⟩

theorem NvLe.refl (a : Nv) : NvLe q a a := ⟨.refl _, Nat.le_refl _, fun _ => ⟨rfl, rfl⟩⟩

@[simp] theorem State.Grows.refl (s : State) : s.Grows q s :=
  ⟨rfl, .refl _, .refl _, fun _ => rfl, fun _ => ⟨rfl, rfl, rfl, rfl, rfl, rfl⟩, fun _ => rfl, fun _ => ⟨rfl, rfl⟩, fun _ => rfl⟩

theorem State.Grows.trans {t u : State} (h : s.Grows q t) (k : t.Grows q u) : s.Grows q u where
  pending := Eq.trans k.pending h.pending
  lc := ⟨h.lc.1.trans k.lc.1, h.lc.2.1.trans k.lc.2.1, fun z => k.lc.2.2.1 (h.lc.2.2.1 z), fun z =>
    ⟨(k.lc.2.2.2 z).1.trans (h.lc.2.2.2 z).1, (k.lc.2.2.2 z).2.1.trans (h.lc.2.2.2 z).2.1,
      (k.lc.2.2.2 z).2.2.trans (h.lc.2.2.2 z).2.2⟩⟩
  nv := ⟨h.nv.1.trans k.nv.1, Nat.le_trans h.nv.2.1 k.nv.2.1, fun z =>
    ⟨(k.nv.2.2 z).1.trans (h.nv.2.2 z).1, (k.nv.2.2 z).2.trans (h.nv.2.2 z).2⟩⟩
  hif := fun z => (k.hif z).trans (h.hif z)
  pwr := fun z => by
    obtain ⟨a, b, c, d, e, f⟩ := k.pwr z
    obtain ⟨a', b', c', d', e', f'⟩ := h.pwr z
    exact ⟨a.trans a', b.trans b', c.trans c', d.trans d', e.trans e', f.trans f'⟩
  flt := fun z => (k.flt z).trans (h.flt z)
  rnd := fun z => ⟨(k.rnd z).1.trans (h.rnd z).1, (k.rnd z).2.trans (h.rnd z).2⟩
  hbm := fun z => (k.hbm z).trans (h.hbm z)

/-- What holds with `q` holds without it. -/
theorem State.Grows.weaken {t : State} (h : s.Grows true t) : s.Grows false t where
  pending := h.pending
  lc := ⟨h.lc.1, h.lc.2.1, h.lc.2.2.1, fun z => by cases z⟩
  nv := ⟨h.nv.1, h.nv.2.1, fun z => by cases z⟩
  hif := fun z => by cases z
  pwr := fun z => by cases z
  flt := fun z => by cases z
  rnd := fun z => by cases z
  hbm := fun z => by cases z

/-! ## Record updates -/

/-- A record update is judged by the fields that the relation speaks of. -/
@[simp] theorem State.grows_mk {p o f hif spdm fns qm orc eng hbm pulp vlt nv rng mp lc rnd flt log pwr grp sb tap} :
    s.Grows q (State.mk p o f hif spdm fns qm orc eng hbm pulp vlt nv rng mp lc rnd flt log pwr grp sb tap)
      ↔ PendLe q s.pending p ∧ LcLe q s.lc lc ∧ NvLe q s.nv nv ∧ HifLe q s.hif hif ∧ PwrLe q s.pwr pwr ∧ FltLe q s.flt flt
        ∧ RndLe q s.rnd rnd ∧ HbmLe q s.hbm hbm :=
  ⟨fun h => ⟨h.1, h.2, h.3, h.4, h.5, h.6, h.7, h.8⟩, fun ⟨a, b, c, d, e, f, g, h⟩ => ⟨a, b, c, d, e, f, g, h⟩⟩

@[simp] theorem grows_pending (h : s.Grows q x) : PendLe q s.pending x.pending = True := eq_true h.pending
@[simp] theorem grows_lc (h : s.Grows q x) : LcLe q s.lc x.lc = True := eq_true h.lc
@[simp] theorem grows_nv (h : s.Grows q x) : NvLe q s.nv x.nv = True := eq_true h.nv
@[simp] theorem grows_hif (h : s.Grows q x) : HifLe q s.hif x.hif = True := eq_true h.hif
@[simp] theorem grows_pwr (h : s.Grows q x) : PwrLe q s.pwr x.pwr = True := eq_true h.pwr
@[simp] theorem grows_flt (h : s.Grows q x) : FltLe q s.flt x.flt = True := eq_true h.flt
@[simp] theorem grows_rnd (h : s.Grows q x) : RndLe q s.rnd x.rnd = True := eq_true h.rnd
@[simp] theorem grows_hbm (h : s.Grows q x) : HbmLe q s.hbm x.hbm = True := eq_true h.hbm

@[simp] theorem hifLe_false {a b : Hif} : HifLe false a b := by intro h; cases h
@[simp] theorem pwrLe_false {a b : Pwr} : PwrLe false a b := by intro h; cases h
@[simp] theorem fltLe_false {a b : Flt} : FltLe false a b := by intro h; cases h
@[simp] theorem rndLe_false {a b : Rnd} : RndLe false a b := by intro h; cases h
@[simp] theorem hbmLe_false {a b : Hbm} : HbmLe false a b := by intro h; cases h


/-! ## Parts of the records that a boot or a burn changes -/

def LcCore (q : Bool) (a : Lc) (st co : Byte) (ikh : BitVec 384) : Prop :=
  BLe a.started st ∧ BLe a.complete co ∧ (BLe a.complete a.started → BLe co st)
    ∧ (q = true → st = a.started ∧ co = a.complete ∧ ikh = a.ikh)

def NvCore (q : Bool) (a : Nv) (fuses : BitVec 30) (n : Nat) : Prop :=
  BLe a.fuses fuses ∧ a.svnMin ≤ n ∧ (q = true → fuses = a.fuses ∧ n = a.svnMin)

def PwrCore (q : Bool) (a : Pwr) (rootLock perst held main vaon extest : Bool) : Prop :=
  q = true → rootLock = a.rootLock ∧ perst = a.perst ∧ held = a.held ∧ main = a.main ∧ vaon = a.vaon ∧ extest = a.extest

def FltCore (q : Bool) (a : Flt) (b : Bool) : Prop := q = true → b = a.cfgLoaded

def RndCore (q : Bool) (a : Rnd) (b c : Bool) : Prop := q = true → b = a.configValid ∧ c = a.stored

def HbmCore (q : Bool) (a : Hbm) (b : Bool) : Prop := q = true → b = a.trained

@[simp] theorem lcLe_mk {a : Lc} {started' complete' ikh' ikhSet' repaired' testModes' debugOpen' nonce' retained' token' resValid' resAction' resStatus' resReason' schedLc' schedWarm'} :
    LcLe q a (Lc.mk started' complete' ikh' ikhSet' repaired' testModes' debugOpen' nonce' retained' token' resValid' resAction' resStatus' resReason' schedLc' schedWarm') = LcCore q a started' complete' ikh' := rfl

@[simp] theorem grows_lcCore (h : s.Grows q x) :
    LcCore q s.lc x.lc.started x.lc.complete x.lc.ikh = True := eq_true h.lc

@[simp] theorem nvLe_mk {a : Nv} {mwk' headerMwk' headerRoot' mwkGen' dusIntact' fuses' svnMin' perso' spread' trim' sbInstance' sbInstanceSet'} :
    NvLe q a (Nv.mk mwk' headerMwk' headerRoot' mwkGen' dusIntact' fuses' svnMin' perso' spread' trim' sbInstance' sbInstanceSet') = NvCore q a fuses' svnMin' := rfl

@[simp] theorem grows_nvCore (h : s.Grows q x) :
    NvCore q s.nv x.nv.fuses x.nv.svnMin = True := eq_true h.nv

@[simp] theorem pwrLe_mk {a : Pwr} {vaon' main' perst' held' extest' standby' state' p1' deepest' idleP2' idleP3' idleP4' policyNext' ltr' resP2' resP3' resP4' enteredAt' idleSince' lastTol' exiting' temps' rootLock' hbm0Lock' hbm1Lock' sscEn' xtal' avsLimit' avs' shutFlag' bootSel'} :
    PwrLe q a (Pwr.mk vaon' main' perst' held' extest' standby' state' p1' deepest' idleP2' idleP3' idleP4' policyNext' ltr' resP2' resP3' resP4' enteredAt' idleSince' lastTol' exiting' temps' rootLock' hbm0Lock' hbm1Lock' sscEn' xtal' avsLimit' avs' shutFlag' bootSel') = PwrCore q a rootLock' perst' held' main' vaon' extest' := rfl

@[simp] theorem grows_pwrCore (h : s.Grows q x) :
    PwrCore q s.pwr x.pwr.rootLock x.pwr.perst x.pwr.held x.pwr.main x.pwr.vaon x.pwr.extest = True := eq_true h.pwr

@[simp] theorem pwrCore_refl (a : Pwr) : PwrCore q a a.rootLock a.perst a.held a.main a.vaon a.extest = True := eq_true (fun _ => by simp)

@[simp] theorem fltLe_mk {a : Flt} {srcs' cause' firstValid' firstSelf' firstEsc' firstSev' firstUnit' firstSrc' firstTick' firstLatch' hist' next' lost' regHist' regNext' regLost' histLatch' graceBlk' graceReg' graceChip' quiet' recWindow' recCount' policyNext' recovTotal' sumVec' sumIen' sumEvents' cfgLoaded'} :
    FltLe q a (Flt.mk srcs' cause' firstValid' firstSelf' firstEsc' firstSev' firstUnit' firstSrc' firstTick' firstLatch' hist' next' lost' regHist' regNext' regLost' histLatch' graceBlk' graceReg' graceChip' quiet' recWindow' recCount' policyNext' recovTotal' sumVec' sumIen' sumEvents' cfgLoaded') = FltCore q a cfgLoaded' := rfl

@[simp] theorem grows_fltCore (h : s.Grows q x) :
    FltCore q s.flt x.flt.cfgLoaded = True := eq_true h.flt

@[simp] theorem fltCore_refl (a : Flt) : FltCore q a a.cfgLoaded = True := eq_true (fun _ => by simp)

@[simp] theorem rndLe_mk {a : Rnd} {hold' configValid' level' supply' latch' latchOvf' alarm' present' stimFail' stored' alarmed' tlow' thigh' tampPol' cfg' events' lostAt' us'} :
    RndLe q a (Rnd.mk hold' configValid' level' supply' latch' latchOvf' alarm' present' stimFail' stored' alarmed' tlow' thigh' tampPol' cfg' events' lostAt' us') = RndCore q a configValid' stored' := rfl

@[simp] theorem grows_rndCore (h : s.Grows q x) :
    RndCore q s.rnd x.rnd.configValid x.rnd.stored = True := eq_true h.rnd

@[simp] theorem rndCore_refl (a : Rnd) : RndCore q a a.configValid a.stored = True := eq_true (fun _ => by simp)

@[simp] theorem hbmLe_mk {a : Hbm} {trained' fillDone' groups' pcOut' corr' uncorr' sealFail' patrols' lpbkPc' lpbkDepth' lpbkErr' keyIn' keySeal' keyAuth' sealCount' sealed'} :
    HbmLe q a (Hbm.mk trained' fillDone' groups' pcOut' corr' uncorr' sealFail' patrols' lpbkPc' lpbkDepth' lpbkErr' keyIn' keySeal' keyAuth' sealCount' sealed') = HbmCore q a trained' := rfl

@[simp] theorem grows_hbmCore (h : s.Grows q x) :
    HbmCore q s.hbm x.hbm.trained = True := eq_true h.hbm

@[simp] theorem hbmCore_refl (a : Hbm) : HbmCore q a a.trained = True := eq_true (fun _ => by simp)

@[simp] theorem pwrCore_false {a : Pwr} {b c d e f g : Bool} : PwrCore false a b c d e f g := by intro h; cases h
@[simp] theorem fltCore_false {a : Flt} {b : Bool} : FltCore false a b := by intro h; cases h
@[simp] theorem rndCore_false {a : Rnd} {b c : Bool} : RndCore false a b c := by intro h; cases h
@[simp] theorem hbmCore_false {a : Hbm} {b : Bool} : HbmCore false a b := by intro h; cases h


/-! ## Branches and folds -/

@[simp] theorem grows_ite {c : Prop} [Decidable c] {a b : State} (ha : s.Grows q a) (hb : s.Grows q b) :
    s.Grows q (if c then a else b) := by split <;> assumption

@[simp] theorem grows_foldl {α : Type} {f : State → α → State} {l : List α} (hf : ∀ a y, State.Grows q a (f a y))
    (h : s.Grows q x) : s.Grows q (l.foldl f x) := by
  induction l generalizing x with
  | nil => exact h
  | cons y t ih => exact ih (h.trans (hf x y))


end Sys2Proof.Machine
end

