-- ==== Sys2Proof/Laws/Grows1.lean ====
section
/-! SUPPORT. What the operations of Ops, Flags, PulpCache, Vault, Respond, Collector, Contain, Reset may do to OTP and to the queue (`State.Grows`), one lemma for each operation. -/

namespace Sys2Proof.Machine

variable {gq : Bool} {s0 x0 : State}

/-! ## Ops -/

@[simp] theorem State.setFn_grows (f : Nat) (r : FnRec) (hg : s0.Grows gq x0) : s0.Grows gq (x0.setFn f r) := by
  unfold State.setFn; first | (simp (maxDischargeDepth := 40) [hg]; done) | ((repeat' split) <;> first | (simp (maxDischargeDepth := 40) [hg]; done) | simp_all)

@[simp] theorem State.setPort_grows (f : Nat) (p : FnPort) (hg : s0.Grows gq x0) : s0.Grows gq (x0.setPort f p) := by
  unfold State.setPort; first | (simp (maxDischargeDepth := 40) [hg]; done) | ((repeat' split) <;> first | (simp (maxDischargeDepth := 40) [hg]; done) | simp_all)

@[simp] theorem State.setMb_grows (f : Nat) (m : Mbox) (hg : s0.Grows gq x0) : s0.Grows gq (x0.setMb f m) := by
  unfold State.setMb; first | (simp (maxDischargeDepth := 40) [hg]; done) | ((repeat' split) <;> first | (simp (maxDischargeDepth := 40) [hg]; done) | simp_all)

@[simp] theorem State.setShare_grows (f : Nat) (h : Share) (hg : s0.Grows gq x0) : s0.Grows gq (x0.setShare f h) := by
  unfold State.setShare; first | (simp (maxDischargeDepth := 40) [hg]; done) | ((repeat' split) <;> first | (simp (maxDischargeDepth := 40) [hg]; done) | simp_all)

@[simp] theorem State.setTen_grows (f : Nat) (t : Tenant) (hg : s0.Grows gq x0) : s0.Grows gq (x0.setTen f t) := by
  unfold State.setTen; first | (simp (maxDischargeDepth := 40) [hg]; done) | ((repeat' split) <;> first | (simp (maxDischargeDepth := 40) [hg]; done) | simp_all)

@[simp] theorem State.setRngw_grows (f : Nat) (w : RngWin) (hg : s0.Grows gq x0) : s0.Grows gq (x0.setRngw f w) := by
  unfold State.setRngw; first | (simp (maxDischargeDepth := 40) [hg]; done) | ((repeat' split) <;> first | (simp (maxDischargeDepth := 40) [hg]; done) | simp_all)

@[simp] theorem State.setPulpPart_grows (f : Nat) (w : PulpPart) (hg : s0.Grows gq x0) : s0.Grows gq (x0.setPulpPart f w) := by
  unfold State.setPulpPart; first | (simp (maxDischargeDepth := 40) [hg]; done) | ((repeat' split) <;> first | (simp (maxDischargeDepth := 40) [hg]; done) | simp_all)

@[simp] theorem State.emit_grows (o : Out) (hg : s0.Grows gq x0) : s0.Grows gq (x0.emit o) := by
  unfold State.emit; first | (simp (maxDischargeDepth := 40) [hg]; done) | ((repeat' split) <;> first | (simp (maxDischargeDepth := 40) [hg]; done) | simp_all)

@[simp] theorem State.draw_grows (n : Nat) (hg : s0.Grows gq x0) : s0.Grows gq (x0.draw n) := by
  unfold State.draw; first | (simp (maxDischargeDepth := 40) [hg]; done) | ((repeat' split) <;> first | (simp (maxDischargeDepth := 40) [hg]; done) | simp_all)

@[simp] theorem State.setOrc_grows (o : Orc) (hg : s0.Grows gq x0) : s0.Grows gq (x0.setOrc o) := by
  unfold State.setOrc; first | (simp (maxDischargeDepth := 40) [hg]; done) | ((repeat' split) <;> first | (simp (maxDischargeDepth := 40) [hg]; done) | simp_all)

@[simp] theorem State.sendMsix_grows (f v : Nat) (hg : s0.Grows gq x0) : s0.Grows gq (x0.sendMsix f v) := by
  unfold State.sendMsix; first | (simp (maxDischargeDepth := 40) [hg]; done) | ((repeat' split) <;> first | (simp (maxDischargeDepth := 40) [hg]; done) | simp_all)

@[simp] theorem State.fnEvent_grows (f bit : Nat) (hg : s0.Grows gq x0) : s0.Grows gq (x0.fnEvent f bit) := by
  unfold State.fnEvent; first | (simp (maxDischargeDepth := 40) [hg]; done) | ((repeat' split) <;> first | (simp (maxDischargeDepth := 40) [hg]; done) | simp_all)

@[simp] theorem State.dropDb_grows (f : Nat) (hg : s0.Grows gq x0) : s0.Grows gq (x0.dropDb f) := by
  unfold State.dropDb; first | (simp (maxDischargeDepth := 40) [hg]; done) | ((repeat' split) <;> first | (simp (maxDischargeDepth := 40) [hg]; done) | simp_all)

@[simp] theorem State.drawHbmKeys_grows (hg : s0.Grows gq x0) : s0.Grows gq (x0.drawHbmKeys) := by
  unfold State.drawHbmKeys; first | (simp (maxDischargeDepth := 40) [hg]; done) | ((repeat' split) <;> first | (simp (maxDischargeDepth := 40) [hg]; done) | simp_all)

@[simp] theorem State.sealOne_grows (seq step len : Nat) (hg : s0.Grows gq x0) : s0.Grows gq (x0.sealOne seq step len) := by
  unfold State.sealOne; first | (simp (maxDischargeDepth := 40) [hg]; done) | ((repeat' split) <;> first | (simp (maxDischargeDepth := 40) [hg]; done) | simp_all)

@[simp] theorem State.endGroup_grows (hg : s0.Grows gq x0) : s0.Grows gq (x0.endGroup) := by
  unfold State.endGroup; first | (simp (maxDischargeDepth := 40) [hg]; done) | ((repeat' split) <;> first | (simp (maxDischargeDepth := 40) [hg]; done) | simp_all)

@[simp] theorem State.refreshFn_grows (f : Nat) (hg : s0.Grows gq x0) : s0.Grows gq (x0.refreshFn f) := by
  unfold State.refreshFn; first | (simp (maxDischargeDepth := 40) [hg]; done) | ((repeat' split) <;> first | (simp (maxDischargeDepth := 40) [hg]; done) | simp_all)

@[simp] theorem State.refresh_grows (hg : s0.Grows gq x0) : s0.Grows gq (x0.refresh) := by
  unfold State.refresh; first | (simp (maxDischargeDepth := 40) [hg]; done) | ((repeat' split) <;> first | (simp (maxDischargeDepth := 40) [hg]; done) | simp_all)

@[simp] theorem State.setQp_grows (f q : Nat) (p : Qp) (hg : s0.Grows gq x0) : s0.Grows gq (x0.setQp f q p) := by
  unfold State.setQp; first | (simp (maxDischargeDepth := 40) [hg]; done) | ((repeat' split) <;> first | (simp (maxDischargeDepth := 40) [hg]; done) | simp_all)

@[simp] theorem State.qpError_grows (f q cause : Nat) (hg : s0.Grows gq x0) : s0.Grows gq (x0.qpError f q cause) := by
  unfold State.qpError; first | (simp (maxDischargeDepth := 40) [hg]; done) | ((repeat' split) <;> first | (simp (maxDischargeDepth := 40) [hg]; done) | simp_all)

@[simp] theorem State.setRegion_grows (r : Nat) (x : Region) (hg : s0.Grows gq x0) : s0.Grows gq (x0.setRegion r x) := by
  unfold State.setRegion; first | (simp (maxDischargeDepth := 40) [hg]; done) | ((repeat' split) <;> first | (simp (maxDischargeDepth := 40) [hg]; done) | simp_all)

@[simp] theorem State.setCell_grows (c : UnitClass) (n : Nat) (x : Cell) (hg : s0.Grows gq x0) : s0.Grows gq (x0.setCell c n x) := by
  unfold State.setCell; first | (simp (maxDischargeDepth := 40) [hg]; done) | ((repeat' split) <;> first | (simp (maxDischargeDepth := 40) [hg]; done) | simp_all)

@[simp] theorem State.setGen_grows (k : Nat) (g : Gen) (hg : s0.Grows gq x0) : s0.Grows gq (x0.setGen k g) := by
  unfold State.setGen; first | (simp (maxDischargeDepth := 40) [hg]; done) | ((repeat' split) <;> first | (simp (maxDischargeDepth := 40) [hg]; done) | simp_all)

@[simp] theorem State.setCluster_grows (k : Nat) (c : Cluster) (hg : s0.Grows gq x0) : s0.Grows gq (x0.setCluster k c) := by
  unfold State.setCluster; first | (simp (maxDischargeDepth := 40) [hg]; done) | ((repeat' split) <;> first | (simp (maxDischargeDepth := 40) [hg]; done) | simp_all)

@[simp] theorem State.setEng_grows (e : Eng) (hg : s0.Grows gq x0) : s0.Grows gq (x0.setEng e) := by
  unfold State.setEng; first | (simp (maxDischargeDepth := 40) [hg]; done) | ((repeat' split) <;> first | (simp (maxDischargeDepth := 40) [hg]; done) | simp_all)

@[simp] theorem State.setSlot_grows (t n : Nat) (x : VSlot) (hg : s0.Grows gq x0) : s0.Grows gq (x0.setSlot t n x) := by
  unfold State.setSlot; first | (simp (maxDischargeDepth := 40) [hg]; done) | ((repeat' split) <;> first | (simp (maxDischargeDepth := 40) [hg]; done) | simp_all)

@[simp] theorem State.setBlob_grows (t n : Nat) (x : Blob) (hg : s0.Grows gq x0) : s0.Grows gq (x0.setBlob t n x) := by
  unfold State.setBlob; first | (simp (maxDischargeDepth := 40) [hg]; done) | ((repeat' split) <;> first | (simp (maxDischargeDepth := 40) [hg]; done) | simp_all)

@[simp] theorem State.setVlt_grows (v : Vlt) (hg : s0.Grows gq x0) : s0.Grows gq (x0.setVlt v) := by
  unfold State.setVlt; first | (simp (maxDischargeDepth := 40) [hg]; done) | ((repeat' split) <;> first | (simp (maxDischargeDepth := 40) [hg]; done) | simp_all)

@[simp] theorem State.logFree_grows (off pad at_ n : Nat) (hg : s0.Grows gq x0) : s0.Grows gq (x0.logFree off pad at_ n) := by
  unfold State.logFree; first | (simp (maxDischargeDepth := 40) [hg]; done) | ((repeat' split) <;> first | (simp (maxDischargeDepth := 40) [hg]; done) | simp_all)

@[simp] theorem State.logPad_grows (off n : Nat) (hg : s0.Grows gq x0) : s0.Grows gq (x0.logPad off n) := by
  unfold State.logPad; first | (simp (maxDischargeDepth := 40) [hg]; done) | ((repeat' split) <;> first | (simp (maxDischargeDepth := 40) [hg]; done) | simp_all)

@[simp] theorem State.logPut_grows (off typ : Nat) (body : List Byte) (cmp : List Nat) (writer : Nat) (rolling : Bool) (hg : s0.Grows gq x0) : s0.Grows gq (x0.logPut off typ body cmp writer rolling) := by
  unfold State.logPut; first | (simp (maxDischargeDepth := 40) [hg]; done) | ((repeat' split) <;> first | (simp (maxDischargeDepth := 40) [hg]; done) | simp_all)

@[simp] theorem State.logRoll_grows (typ : Nat) (body : List Byte) (cmp : List Nat) (writer : Nat) (hg : s0.Grows gq x0) : s0.Grows gq (x0.logRoll typ body cmp writer) := by
  unfold State.logRoll; first | (simp (maxDischargeDepth := 40) [hg]; done) | ((repeat' split) <;> first | (simp (maxDischargeDepth := 40) [hg]; done) | simp_all)

@[simp] theorem State.logPlace_grows (typ : Nat) (body : List Byte) (cmp : List Nat) (writer : Nat) (hg : s0.Grows gq x0) : s0.Grows gq (x0.logPlace typ body cmp writer) := by
  unfold State.logPlace; first | (simp (maxDischargeDepth := 40) [hg]; done) | ((repeat' split) <;> first | (simp (maxDischargeDepth := 40) [hg]; done) | simp_all)

@[simp] theorem State.logRepeat_grows (hg : s0.Grows gq x0) : s0.Grows gq (x0.logRepeat) := by
  unfold State.logRepeat; first | (simp (maxDischargeDepth := 40) [hg]; done) | ((repeat' split) <;> first | (simp (maxDischargeDepth := 40) [hg]; done) | simp_all)

@[simp] theorem State.logSecond_grows (hg : s0.Grows gq x0) : s0.Grows gq (x0.logSecond) := by
  unfold State.logSecond; first | (simp (maxDischargeDepth := 40) [hg]; done) | ((repeat' split) <;> first | (simp (maxDischargeDepth := 40) [hg]; done) | simp_all)

@[simp] theorem State.logRecord_grows (typ : Nat) (body : List Byte) (cmp : List Nat) (writer : Nat) (hg : s0.Grows gq x0) : s0.Grows gq (x0.logRecord typ body cmp writer) := by
  unfold State.logRecord; first | (simp (maxDischargeDepth := 40) [hg]; done) | ((repeat' split) <;> first | (simp (maxDischargeDepth := 40) [hg]; done) | simp_all)

@[simp] theorem State.logWord_grows (typ v writer : Nat) (hg : s0.Grows gq x0) : s0.Grows gq (x0.logWord typ v writer) := by
  unfold State.logWord; first | (simp (maxDischargeDepth := 40) [hg]; done) | ((repeat' split) <;> first | (simp (maxDischargeDepth := 40) [hg]; done) | simp_all)

@[simp] theorem State.applyPower_grows (l : List Nat) (hg : s0.Grows gq x0) : s0.Grows gq (x0.applyPower l) := by
  unfold State.applyPower; first | (simp (maxDischargeDepth := 40) [hg]; done) | ((repeat' split) <;> first | (simp (maxDischargeDepth := 40) [hg]; done) | simp_all)

theorem Flt.applyPolicy_cfgLoaded (f : Flt) (l : List Nat) : (f.applyPolicy l).cfgLoaded = f.cfgLoaded := by
  unfold Flt.applyPolicy; split <;> rfl

theorem Flt.applyPolicies_cfgLoaded (l : List (List Nat)) (f : Flt) :
    (l.foldl Flt.applyPolicy f).cfgLoaded = f.cfgLoaded := by
  induction l generalizing f with
  | nil => rfl
  | cons a t ih => rw [List.foldl_cons, ih, Flt.applyPolicy_cfgLoaded]

@[simp] theorem State.applyPolicies_grows (hg : s0.Grows gq x0) : s0.Grows gq x0.applyPolicies := by
  unfold State.applyPolicies
  refine grows_foldl (fun a y => by simp) ?_
  simp (maxDischargeDepth := 40) [hg, Flt.applyPolicies_cfgLoaded]


/-! ## Flags -/

@[simp] theorem State.setItem_grows (it : Item) (hg : s0.Grows gq x0) : s0.Grows gq (x0.setItem it) := by
  unfold State.setItem; first | (simp (maxDischargeDepth := 40) [hg]; done) | ((repeat' split) <;> first | (simp (maxDischargeDepth := 40) [hg]; done) | simp_all)

@[simp] theorem State.dropItem_grows (seq : Nat) (hg : s0.Grows gq x0) : s0.Grows gq (x0.dropItem seq) := by
  unfold State.dropItem; first | (simp (maxDischargeDepth := 40) [hg]; done) | ((repeat' split) <;> first | (simp (maxDischargeDepth := 40) [hg]; done) | simp_all)

@[simp] theorem State.trace_grows (it : Item) (sp : Option Step) (event arg : Nat) (v : Verdict) (unit : Option Nat) (hg : s0.Grows gq x0) : s0.Grows gq (x0.trace it sp event arg v unit) := by
  unfold State.trace; first | (simp (maxDischargeDepth := 40) [hg]; done) | ((repeat' split) <;> first | (simp (maxDischargeDepth := 40) [hg]; done) | simp_all)


/-! ## PulpCache -/

@[simp] theorem State.setPulp_grows (p : Pulp) (hg : s0.Grows gq x0) : s0.Grows gq (x0.setPulp p) := by
  unfold State.setPulp; first | (simp (maxDischargeDepth := 40) [hg]; done) | ((repeat' split) <;> first | (simp (maxDischargeDepth := 40) [hg]; done) | simp_all)

@[simp] theorem State.putEntries_grows (l : List PulpEntry) (hg : s0.Grows gq x0) : s0.Grows gq (x0.putEntries l) := by
  unfold State.putEntries; first | (simp (maxDischargeDepth := 40) [hg]; done) | ((repeat' split) <;> first | (simp (maxDischargeDepth := 40) [hg]; done) | simp_all)

@[simp] theorem State.pulpInsert_grows (e : PulpEntry) (hg : s0.Grows gq x0) : s0.Grows gq (x0.pulpInsert e) := by
  unfold State.pulpInsert
  extract_lets t part l r s1
  have h1 : s0.Grows gq s1 := by simp (maxDischargeDepth := 40) [s1, hg]
  repeat' split
  all_goals first | exact hg | exact h1 | exact State.putEntries_grows _ h1

@[simp] theorem State.pulpFit_grows (owner : Nat) (hg : s0.Grows gq x0) : s0.Grows gq (x0.pulpFit owner) := by
  unfold State.pulpFit; first | (simp (maxDischargeDepth := 40) [hg]; done) | ((repeat' split) <;> first | (simp (maxDischargeDepth := 40) [hg]; done) | simp_all)

@[simp] theorem State.pulpInvalidate_grows (owner : Nat) (tag : BitVec 128) (hg : s0.Grows gq x0) : s0.Grows gq (x0.pulpInvalidate owner tag) := by
  unfold State.pulpInvalidate; first | (simp (maxDischargeDepth := 40) [hg]; done) | ((repeat' split) <;> first | (simp (maxDischargeDepth := 40) [hg]; done) | simp_all)

@[simp] theorem State.sharedLost_grows (h : QWord) (deleted : Bool) (hg : s0.Grows gq x0) : s0.Grows gq (x0.sharedLost h deleted) := by
  unfold State.sharedLost; first | (simp (maxDischargeDepth := 40) [hg]; done) | ((repeat' split) <;> first | (simp (maxDischargeDepth := 40) [hg]; done) | simp_all)

@[simp] theorem State.pulpScrub_grows (owner : Nat) (hg : s0.Grows gq x0) : s0.Grows gq (x0.pulpScrub owner) := by
  unfold State.pulpScrub; first | (simp (maxDischargeDepth := 40) [hg]; done) | ((repeat' split) <;> first | (simp (maxDischargeDepth := 40) [hg]; done) | simp_all)

@[simp] theorem State.pulpDropTier_grows (onChip : Bool) (hg : s0.Grows gq x0) : s0.Grows gq (x0.pulpDropTier onChip) := by
  unfold State.pulpDropTier; first | (simp (maxDischargeDepth := 40) [hg]; done) | ((repeat' split) <;> first | (simp (maxDischargeDepth := 40) [hg]; done) | simp_all)

@[simp] theorem State.pulpEmpty_grows (hg : s0.Grows gq x0) : s0.Grows gq (x0.pulpEmpty) := by
  unfold State.pulpEmpty; first | (simp (maxDischargeDepth := 40) [hg]; done) | ((repeat' split) <;> first | (simp (maxDischargeDepth := 40) [hg]; done) | simp_all)


/-! ## Vault -/

@[simp] theorem State.commitRec_grows (typ action t n : Nat) (counter : QWord) (hash : BitVec 128) (newLoc : Nat) (hg : s0.Grows gq x0) : s0.Grows gq (x0.commitRec typ action t n counter hash newLoc) := by
  unfold State.commitRec; first | (simp (maxDischargeDepth := 40) [hg]; done) | ((repeat' split) <;> first | (simp (maxDischargeDepth := 40) [hg]; done) | simp_all)

@[simp] theorem State.keyChanges_grows (t n : Nat) (deleted : Bool) (hg : s0.Grows gq x0) : s0.Grows gq (x0.keyChanges t n deleted) := by
  unfold State.keyChanges; first | (simp (maxDischargeDepth := 40) [hg]; done) | ((repeat' split) <;> first | (simp (maxDischargeDepth := 40) [hg]; done) | simp_all)

@[simp] theorem State.putKey_grows (typ action t n : Nat) (counter : QWord) (hash : BitVec 128) (k : NewKey) (hg : s0.Grows gq x0) : s0.Grows gq (x0.putKey typ action t n counter hash k) := by
  unfold State.putKey; first | (simp (maxDischargeDepth := 40) [hg]; done) | ((repeat' split) <;> first | (simp (maxDischargeDepth := 40) [hg]; done) | simp_all)

@[simp] theorem State.putPolicy_grows (t n : Nat) (counter : QWord) (hash : BitVec 128) (attr : QWord) (hg : s0.Grows gq x0) : s0.Grows gq (x0.putPolicy t n counter hash attr) := by
  unfold State.putPolicy; first | (simp (maxDischargeDepth := 40) [hg]; done) | ((repeat' split) <;> first | (simp (maxDischargeDepth := 40) [hg]; done) | simp_all)

@[simp] theorem State.deleteKey_grows (t n : Nat) (counter : QWord) (hash : BitVec 128) (hg : s0.Grows gq x0) : s0.Grows gq (x0.deleteKey t n counter hash) := by
  unfold State.deleteKey; first | (simp (maxDischargeDepth := 40) [hg]; done) | ((repeat' split) <;> first | (simp (maxDischargeDepth := 40) [hg]; done) | simp_all)

@[simp] theorem State.commitUse_grows (t n : Nat) (hg : s0.Grows gq x0) : s0.Grows gq (x0.commitUse t n) := by
  unfold State.commitUse; first | (simp (maxDischargeDepth := 40) [hg]; done) | ((repeat' split) <;> first | (simp (maxDischargeDepth := 40) [hg]; done) | simp_all)

@[simp] theorem State.breakSlot_grows (t n : Nat) (hg : s0.Grows gq x0) : s0.Grows gq (x0.breakSlot t n) := by
  unfold State.breakSlot; first | (simp (maxDischargeDepth := 40) [hg]; done) | ((repeat' split) <;> first | (simp (maxDischargeDepth := 40) [hg]; done) | simp_all)

@[simp] theorem State.breakBlob_grows (t n : Nat) (hg : s0.Grows gq x0) : s0.Grows gq (x0.breakBlob t n) := by
  unfold State.breakBlob; first | (simp (maxDischargeDepth := 40) [hg]; done) | ((repeat' split) <;> first | (simp (maxDischargeDepth := 40) [hg]; done) | simp_all)

@[simp] theorem State.newTree_grows (hg : s0.Grows gq x0) : s0.Grows gq (x0.newTree) := by
  unfold State.newTree; first | (simp (maxDischargeDepth := 40) [hg]; done) | ((repeat' split) <;> first | (simp (maxDischargeDepth := 40) [hg]; done) | simp_all)

@[simp] theorem State.putBlob_grows (t n : Nat) (attr pub : QWord) (len : Nat) (secAt : Option Nat) (hg : s0.Grows gq x0) : s0.Grows gq (x0.putBlob t n attr pub len secAt) := by
  unfold State.putBlob; first | (simp (maxDischargeDepth := 40) [hg]; done) | ((repeat' split) <;> first | (simp (maxDischargeDepth := 40) [hg]; done) | simp_all)

@[simp] theorem State.reserveKey_grows (t : Nat) (h : QWord) (len : Nat) (on : Bool) (hg : s0.Grows gq x0) : s0.Grows gq (x0.reserveKey t h len on) := by
  unfold State.reserveKey; first | (simp (maxDischargeDepth := 40) [hg]; done) | ((repeat' split) <;> first | (simp (maxDischargeDepth := 40) [hg]; done) | simp_all)

@[simp] theorem State.reserveSteps_grows (t : Nat) (on : Bool) (l : List Step) (hg : s0.Grows gq x0) : s0.Grows gq (x0.reserveSteps t on l) := by
  unfold State.reserveSteps; first | (simp (maxDischargeDepth := 40) [hg]; done) | ((repeat' split) <;> first | (simp (maxDischargeDepth := 40) [hg]; done) | simp_all)

@[simp] theorem State.placeKeys_grows (t : Nat) (st : Step) (hg : s0.Grows gq x0) : s0.Grows gq (x0.placeKeys t st) := by
  unfold State.placeKeys
  extract_lets k pub sec s1
  have h1 : s0.Grows gq s1 := by unfold s1; split <;> simp (maxDischargeDepth := 40) [hg]
  split <;> simp (maxDischargeDepth := 40) [h1]


/-! ## Respond -/

@[simp] theorem State.mbRespond_grows (fn cmd : Nat) (token : Word) (st : Status) (why : Reason) (flags : Nat) (payload : List Byte) (hg : s0.Grows gq x0) : s0.Grows gq (x0.mbRespond fn cmd token st why flags payload) := by
  unfold State.mbRespond; first | (simp (maxDischargeDepth := 40) [hg]; done) | ((repeat' split) <;> first | (simp (maxDischargeDepth := 40) [hg]; done) | simp_all)

@[simp] theorem State.adminLog_grows (code tenant : Nat) (st : Status) (ws : List QWord) (hg : s0.Grows gq x0) : s0.Grows gq (x0.adminLog code tenant st ws) := by
  unfold State.adminLog; first | (simp (maxDischargeDepth := 40) [hg]; done) | ((repeat' split) <;> first | (simp (maxDischargeDepth := 40) [hg]; done) | simp_all)

@[simp] theorem State.endReload_grows (step : Nat) (st : Status) (hg : s0.Grows gq x0) : s0.Grows gq (x0.endReload step st) := by
  unfold State.endReload; first | (simp (maxDischargeDepth := 40) [hg]; done) | ((repeat' split) <;> first | (simp (maxDischargeDepth := 40) [hg]; done) | simp_all)

@[simp] theorem State.setGrp_grows (g : Grp) (hg : s0.Grows gq x0) : s0.Grows gq (x0.setGrp g) := by
  unfold State.setGrp; first | (simp (maxDischargeDepth := 40) [hg]; done) | ((repeat' split) <;> first | (simp (maxDischargeDepth := 40) [hg]; done) | simp_all)

@[simp] theorem State.setPeer_grows (i : Nat) (p : Peer) (hg : s0.Grows gq x0) : s0.Grows gq (x0.setPeer i p) := by
  unfold State.setPeer; first | (simp (maxDischargeDepth := 40) [hg]; done) | ((repeat' split) <;> first | (simp (maxDischargeDepth := 40) [hg]; done) | simp_all)

@[simp] theorem State.queueFrame_grows (i typ : Nat) (mseq : QWord) (tenant slot result : Nat) (hg : s0.Grows gq x0) : s0.Grows gq (x0.queueFrame i typ mseq tenant slot result) := by
  unfold State.queueFrame; first | (simp (maxDischargeDepth := 40) [hg]; done) | ((repeat' split) <;> first | (simp (maxDischargeDepth := 40) [hg]; done) | simp_all)

@[simp] theorem State.sendCommit_grows (mseq : QWord) (tenant slot : Nat) (hg : s0.Grows gq x0) : s0.Grows gq (x0.sendCommit mseq tenant slot) := by
  unfold State.sendCommit; first | (simp (maxDischargeDepth := 40) [hg]; done) | ((repeat' split) <;> first | (simp (maxDischargeDepth := 40) [hg]; done) | simp_all)


/-! ## Collector -/

@[simp] theorem State.setSrc_grows (n : Nat) (x : SrcRec) (hg : s0.Grows gq x0) : s0.Grows gq (x0.setSrc n x) := by
  unfold State.setSrc; first | (simp (maxDischargeDepth := 40) [hg]; done) | ((repeat' split) <;> first | (simp (maxDischargeDepth := 40) [hg]; done) | simp_all)

@[simp] theorem State.pushHist_grows (chip : Bool) (h : Hist) (hg : s0.Grows gq x0) : s0.Grows gq (x0.pushHist chip h) := by
  unfold State.pushHist; first | (simp (maxDischargeDepth := 40) [hg]; done) | ((repeat' split) <;> first | (simp (maxDischargeDepth := 40) [hg]; done) | simp_all)

@[simp] theorem State.sumEvent_grows (bit : Nat) (hg : s0.Grows gq x0) : s0.Grows gq (x0.sumEvent bit) := by
  unfold State.sumEvent; first | (simp (maxDischargeDepth := 40) [hg]; done) | ((repeat' split) <;> first | (simp (maxDischargeDepth := 40) [hg]; done) | simp_all)

@[simp] theorem State.raiseLevel_grows (l : Nat) (hg : s0.Grows gq x0) : s0.Grows gq (x0.raiseLevel l) := by
  unfold State.raiseLevel; first | (simp (maxDischargeDepth := 40) [hg]; done) | ((repeat' split) <;> first | (simp (maxDischargeDepth := 40) [hg]; done) | simp_all)

@[simp] theorem State.capture_grows (n unit : Nat) (hg : s0.Grows gq x0) : s0.Grows gq (x0.capture n unit) := by
  unfold State.capture; first | (simp (maxDischargeDepth := 40) [hg]; done) | ((repeat' split) <;> first | (simp (maxDischargeDepth := 40) [hg]; done) | simp_all)

@[simp] theorem State.noteEvent_grows (n unit detail : Nat) (present : Bool) (hg : s0.Grows gq x0) : s0.Grows gq (x0.noteEvent n unit detail present) := by
  unfold State.noteEvent; first | (simp (maxDischargeDepth := 40) [hg]; done) | ((repeat' split) <;> first | (simp (maxDischargeDepth := 40) [hg]; done) | simp_all)

@[simp] theorem State.selfClear_grows (n : Nat) (hg : s0.Grows gq x0) : s0.Grows gq (x0.selfClear n) := by
  unfold State.selfClear
  split
  · by_cases hc : (decide (n < 64) || x0.flt.hist.any (fun x => x.src == n && x.passedUp)) = true <;>
      simp only [hc, if_true, Bool.false_eq_true, if_false] <;> simp (maxDischargeDepth := 40) [hg]
  · exact hg

@[simp] theorem State.presentEnds_grows (n : Nat) (hg : s0.Grows gq x0) : s0.Grows gq (x0.presentEnds n) := by
  unfold State.presentEnds; first | (simp (maxDischargeDepth := 40) [hg]; done) | ((repeat' split) <;> first | (simp (maxDischargeDepth := 40) [hg]; done) | simp_all)


/-! ## Contain -/

@[simp] theorem State.takeUnits_grows (n : Nat) (c : UnitClass) (l : List Nat) (hg : s0.Grows gq x0) : s0.Grows gq (x0.takeUnits n c l) := by
  unfold State.takeUnits; first | (simp (maxDischargeDepth := 40) [hg]; done) | ((repeat' split) <;> first | (simp (maxDischargeDepth := 40) [hg]; done) | simp_all)

@[simp] theorem State.refund_grows (it : Item) (st : Step) (hg : s0.Grows gq x0) : s0.Grows gq (x0.refund it st) := by
  unfold State.refund; first | (simp (maxDischargeDepth := 40) [hg]; done) | ((repeat' split) <;> first | (simp (maxDischargeDepth := 40) [hg]; done) | simp_all)

@[simp] theorem State.beginLoad_grows (r : Nat) (hg : s0.Grows gq x0) : s0.Grows gq (x0.beginLoad r) := by
  unfold State.beginLoad; first | (simp (maxDischargeDepth := 40) [hg]; done) | ((repeat' split) <;> first | (simp (maxDischargeDepth := 40) [hg]; done) | simp_all)

@[simp] theorem State.regionLoss_grows (r : Nat) (hg : s0.Grows gq x0) : s0.Grows gq (x0.regionLoss r) := by
  unfold State.regionLoss
  extract_lets x s0' s1 o s2 s3 mine s4
  have h0 : s0.Grows gq s0' := by simp (maxDischargeDepth := 40) [s0', hg]
  have h1 : s0.Grows gq s1 := grows_foldl (fun a y => grows_foldl (fun b z => by
    split <;> simp (maxDischargeDepth := 40)) (.refl a)) h0
  have h2 : s0.Grows gq s2 := by simp (maxDischargeDepth := 40) [s2, h1]
  have h3 : s0.Grows gq s3 := grows_foldl (fun a y => grows_foldl (fun b z => by simp) (.refl a)) h2
  have h4 : s0.Grows gq s4 := by simp (maxDischargeDepth := 40) [s4, h3]
  repeat' split
  · exact hg
  · simp (maxDischargeDepth := 40) [h4]
  · exact State.beginLoad_grows r h4
  · exact h4

@[simp] theorem State.clearKeyRegs_grows (hg : s0.Grows gq x0) : s0.Grows gq (x0.clearKeyRegs) := by
  unfold State.clearKeyRegs; first | (simp (maxDischargeDepth := 40) [hg]; done) | ((repeat' split) <;> first | (simp (maxDischargeDepth := 40) [hg]; done) | simp_all)

@[simp] theorem State.halt_grows (why : Reason) (hg : s0.Grows gq x0) : s0.Grows gq (x0.halt why) := by
  unfold State.halt; first | (simp (maxDischargeDepth := 40) [hg]; done) | ((repeat' split) <;> first | (simp (maxDischargeDepth := 40) [hg]; done) | simp_all)

@[simp] theorem State.quarantineRegion_grows (r : Nat) (byRind : Option Nat) (why : Reason) (hg : s0.Grows gq x0) : s0.Grows gq (x0.quarantineRegion r byRind why) := by
  unfold State.quarantineRegion; first | (simp (maxDischargeDepth := 40) [hg]; done) | ((repeat' split) <;> first | (simp (maxDischargeDepth := 40) [hg]; done) | simp_all)

@[simp] theorem State.quarantineSrc_grows (n : Nat) (hg : s0.Grows gq x0) : s0.Grows gq (x0.quarantineSrc n) := by
  unfold State.quarantineSrc; first | (simp (maxDischargeDepth := 40) [hg]; done) | ((repeat' split) <;> first | (simp (maxDischargeDepth := 40) [hg]; done) | simp_all)

theorem Hbm.noKeys_trained (b : Hbm) : b.noKeys.trained = b.trained := rfl

@[simp] theorem hbmLe_noKeys {a b : Hbm} : HbmLe gq a b.noKeys ↔ HbmLe gq a b := Iff.rfl

@[simp] theorem State.zeroiseKeys_grows (row : Nat) (hg : s0.Grows gq x0) : s0.Grows gq (x0.zeroiseKeys row) := by
  have h1 : s0.Grows gq (x0.logWord 0x041 row 0).endGroup := by simp (maxDischargeDepth := 40) [hg]
  unfold State.zeroiseKeys
  dsimp only
  generalize (x0.logWord 0x041 row 0).endGroup = s1 at h1 ⊢
  simp (maxDischargeDepth := 40) [h1]

@[simp] theorem State.carryLow_grows (n l : Nat) (hg : s0.Grows gq x0) : s0.Grows gq (x0.carryLow n l) := by
  unfold State.carryLow; first | (simp (maxDischargeDepth := 40) [hg]; done) | ((repeat' split) <;> first | (simp (maxDischargeDepth := 40) [hg]; done) | simp_all)

@[simp] theorem State.raiseLow_grows (n unit detail : Nat) (present : Bool) (hg : s0.Grows gq x0) : s0.Grows gq (x0.raiseLow n unit detail present) := by
  unfold State.raiseLow; first | (simp (maxDischargeDepth := 40) [hg]; done) | ((repeat' split) <;> first | (simp (maxDischargeDepth := 40) [hg]; done) | simp_all)

@[simp] theorem State.checkDead_grows (r : Nat) (hg : s0.Grows gq x0) : s0.Grows gq (x0.checkDead r) := by
  unfold State.checkDead; first | (simp (maxDischargeDepth := 40) [hg]; done) | ((repeat' split) <;> first | (simp (maxDischargeDepth := 40) [hg]; done) | simp_all)


/-! ## Reset -/

@[simp] theorem State.dropItems_grows (f : Nat) (hg : s0.Grows gq x0) : s0.Grows gq (x0.dropItems f) := by
  unfold State.dropItems; first | (simp (maxDischargeDepth := 40) [hg]; done) | ((repeat' split) <;> first | (simp (maxDischargeDepth := 40) [hg]; done) | simp_all)

@[simp] theorem State.deleteQps_grows (f : Nat) (hg : s0.Grows gq x0) : s0.Grows gq (x0.deleteQps f) := by
  unfold State.deleteQps; first | (simp (maxDischargeDepth := 40) [hg]; done) | ((repeat' split) <;> first | (simp (maxDischargeDepth := 40) [hg]; done) | simp_all)

@[simp] theorem State.unfetch_grows (f : Nat) (hg : s0.Grows gq x0) : s0.Grows gq (x0.unfetch f) := by
  unfold State.unfetch; first | (simp (maxDischargeDepth := 40) [hg]; done) | ((repeat' split) <;> first | (simp (maxDischargeDepth := 40) [hg]; done) | simp_all)

@[simp] theorem State.mbClear_grows (f : Nat) (hg : s0.Grows gq x0) : s0.Grows gq (x0.mbClear f) := by
  unfold State.mbClear; first | (simp (maxDischargeDepth := 40) [hg]; done) | ((repeat' split) <;> first | (simp (maxDischargeDepth := 40) [hg]; done) | simp_all)

@[simp] theorem State.fnStart_grows (f : Nat) (hg : s0.Grows gq x0) : s0.Grows gq (x0.fnStart f) := by
  unfold State.fnStart; first | (simp (maxDischargeDepth := 40) [hg]; done) | ((repeat' split) <;> first | (simp (maxDischargeDepth := 40) [hg]; done) | simp_all)

@[simp] theorem State.fnFinish_grows (f : Nat) (hg : s0.Grows gq x0) : s0.Grows gq (x0.fnFinish f) := by
  unfold State.fnFinish; first | (simp (maxDischargeDepth := 40) [hg]; done) | ((repeat' split) <;> first | (simp (maxDischargeDepth := 40) [hg]; done) | simp_all)

@[simp] theorem State.vfsOff_grows (hg : s0.Grows false x0) : s0.Grows false x0.vfsOff := by
  unfold State.vfsOff
  extract_lets s1
  have h1 : s0.Grows false s1 := grows_foldl (fun a y => by split <;> simp (maxDischargeDepth := 40)) hg
  simp (maxDischargeDepth := 40) [h1]

@[simp] theorem State.linkDrop_grows (hg : s0.Grows false x0) : s0.Grows false x0.linkDrop := by
  unfold State.linkDrop
  extract_lets s1
  have h1 : s0.Grows false s1 := grows_foldl (fun a y => by simp (maxDischargeDepth := 40)) hg
  simp (maxDischargeDepth := 40) [h1]

@[simp] theorem State.clearMain_grows (cold : Bool) (hg : s0.Grows false x0) : s0.Grows false (x0.clearMain cold) := by
  have h1 : s0.Grows false (x0.fnList.foldl (fun a f => a.dropItems f) x0).applyPolicies :=
    State.applyPolicies_grows (grows_foldl (fun a y => by simp (maxDischargeDepth := 40)) hg)
  unfold State.clearMain
  dsimp only
  generalize (x0.fnList.foldl (fun a f => a.dropItems f) x0).applyPolicies = s1 at h1 ⊢
  simp (maxDischargeDepth := 40) [h1]

@[simp] theorem State.coldClear_grows (hg : s0.Grows false x0) : s0.Grows false x0.coldClear := by
  unfold State.coldClear; simp (maxDischargeDepth := 40) [hg]

end Sys2Proof.Machine
end

