-- ==== Sys2Proof/Laws/Tab.lean ====
section
/-! SUPPORT. Sparse tables: what is read after a write, a drop, a filter or a map, and that each of these operations keeps
the canonical form. -/

namespace Sys2Proof.Machine

variable {α : Type}

/-! ## Reads -/

theorem Tab.get_drop_self (d : α) (t : Tab α) (a : Nat) : Tab.get d (Tab.drop t a) a = d := by
  induction t with
  | nil => rfl
  | cons e t ih =>
    obtain ⟨k, v⟩ := e
    unfold Tab.drop
    split
    · exact ih
    · rename_i h; simp [Tab.get, h, ih]

theorem Tab.get_drop_other (d : α) (t : Tab α) {a b : Nat} (h : a ≠ b) :
    Tab.get d (Tab.drop t a) b = Tab.get d t b := by
  induction t with
  | nil => rfl
  | cons e t ih =>
    obtain ⟨k, v⟩ := e
    unfold Tab.drop
    split
    · rename_i hk; subst hk; simp [Tab.get, h, ih]
    · simp [Tab.get, ih]

theorem Tab.get_ins_self (d : α) (t : Tab α) (a : Nat) (v : α) :
    Tab.get d (Tab.ins a v (Tab.drop t a)) a = v := by
  have key : ∀ u : Tab α, (∀ e ∈ u, e.1 ≠ a) → Tab.get d (Tab.ins a v u) a = v := by
    intro u hu
    induction u with
    | nil => simp [Tab.ins, Tab.get]
    | cons e u ih =>
      obtain ⟨k, w⟩ := e
      have hk : k ≠ a := hu (k, w) (by simp)
      unfold Tab.ins
      split
      · simp [Tab.get]
      · simp [Tab.get, hk]; exact ih (fun e he => hu e (by simp [he]))
  apply key
  intro e he
  induction t with
  | nil => simp [Tab.drop] at he
  | cons x t ih =>
    obtain ⟨k, w⟩ := x
    unfold Tab.drop at he
    split at he
    · exact ih he
    · rename_i hk
      rcases List.mem_cons.mp he with rfl | h
      · exact hk
      · exact ih h

theorem Tab.get_ins_other (d : α) (t : Tab α) {a b : Nat} (v : α) (h : a ≠ b) :
    Tab.get d (Tab.ins a v t) b = Tab.get d t b := by
  induction t with
  | nil => simp [Tab.ins, Tab.get, h]
  | cons e t ih =>
    obtain ⟨k, w⟩ := e
    unfold Tab.ins
    split
    · simp [Tab.get, h]
    · simp [Tab.get, ih]

@[simp] theorem Tab.get_put_self [DecidableEq α] (d : α) (t : Tab α) (a : Nat) (v : α) :
    Tab.get d (Tab.put d t a v) a = v := by
  unfold Tab.put
  split
  · rename_i h; rw [Tab.get_drop_self, h]
  · exact Tab.get_ins_self d t a v

theorem Tab.get_put_other [DecidableEq α] (d : α) (t : Tab α) {a b : Nat} (v : α) (h : a ≠ b) :
    Tab.get d (Tab.put d t a v) b = Tab.get d t b := by
  unfold Tab.put
  split
  · exact Tab.get_drop_other d t h
  · rw [Tab.get_ins_other d _ v h, Tab.get_drop_other d t h]

theorem Tab.get_put [DecidableEq α] (d : α) (t : Tab α) (a b : Nat) (v : α) :
    Tab.get d (Tab.put d t a v) b = if a = b then v else Tab.get d t b := by
  split
  · rename_i h; subst h; exact Tab.get_put_self d t a v
  · rename_i h; exact Tab.get_put_other d t v h

/-- A mapped table reads as the mapped value, where the map keeps what an unlisted key reads as and keys are unique. -/
theorem Tab.get_tabMap [DecidableEq α] (d : α) (f : α → α) (hf : f d = d) :
    ∀ (t : Tab α) (b : Nat), Tab.wf d t = true → Tab.get d (tabMap d f t) b = f (Tab.get d t b) := by
  have rising : ∀ (t : Tab α) (k n : Nat), Tab.rising k t = true → n ≤ k → Tab.get d (tabMap d f t) n = d := by
    intro t
    induction t with
    | nil => intros; rfl
    | cons e t ih =>
      obtain ⟨a, v⟩ := e
      intro k n h hn
      simp only [Tab.rising, Bool.and_eq_true, decide_eq_true_eq] at h
      have h1 := ih a n h.2 (by omega)
      have h2 : a ≠ n := by omega
      unfold tabMap at h1 ⊢
      simp only [List.map_cons, List.filter_cons]
      split
      · simp [Tab.get, h2, h1]
      · exact h1
  intro t
  induction t with
  | nil => intro b _; simp [tabMap, Tab.get, hf]
  | cons e t ih =>
    obtain ⟨a, v⟩ := e
    intro b h
    simp only [Tab.wf, Bool.and_eq_true, decide_eq_true_eq] at h
    have h1 := ih b h.2
    have h2 := rising t a b h.1.2
    unfold tabMap at h1 h2 ⊢
    simp only [List.map_cons, List.filter_cons]
    by_cases hab : a = b
    · subst hab
      split
      · simp [Tab.get]
      · rename_i hv
        have hv' : f v = d := by simpa using hv
        simp [Tab.get, hv', h2 (Nat.le_refl _)]
    · split
      · simp [Tab.get, hab, h1]
      · simp [Tab.get, hab, h1]

/-! ## The canonical form -/

theorem Tab.rising_weaken {t : Tab α} {a b : Nat} (h : Tab.rising b t = true) (hab : a ≤ b) : Tab.rising a t = true := by
  cases t with
  | nil => rfl
  | cons e t =>
    obtain ⟨k, v⟩ := e
    simp only [Tab.rising, Bool.and_eq_true, decide_eq_true_eq] at h ⊢
    exact ⟨by omega, h.2⟩

theorem Tab.rising_drop {t : Tab α} {b : Nat} (a : Nat) (h : Tab.rising b t = true) : Tab.rising b (Tab.drop t a) = true := by
  induction t generalizing b with
  | nil => rfl
  | cons e t ih =>
    obtain ⟨k, v⟩ := e
    simp only [Tab.rising, Bool.and_eq_true, decide_eq_true_eq] at h
    unfold Tab.drop
    split
    · exact ih (Tab.rising_weaken h.2 (by omega))
    · simp only [Tab.rising, Bool.and_eq_true, decide_eq_true_eq]
      exact ⟨h.1, ih h.2⟩

theorem Tab.rising_ins {t : Tab α} {a b : Nat} (v : α) (h : Tab.rising b t = true) (hb : b < a)
    (hk : ∀ e ∈ t, e.1 ≠ a) : Tab.rising b (Tab.ins a v t) = true := by
  induction t generalizing b with
  | nil => simp [Tab.ins, Tab.rising, hb]
  | cons e t ih =>
    obtain ⟨k, w⟩ := e
    simp only [Tab.rising, Bool.and_eq_true, decide_eq_true_eq] at h
    have hka : k ≠ a := hk (k, w) (by simp)
    unfold Tab.ins
    split
    · rename_i hlt
      simp only [Tab.rising, Bool.and_eq_true, decide_eq_true_eq]
      exact ⟨hb, hlt, h.2⟩
    · simp only [Tab.rising, Bool.and_eq_true, decide_eq_true_eq]
      exact ⟨h.1, ih h.2 (by omega) (fun e he => hk e (by simp [he]))⟩

theorem Tab.drop_keys (t : Tab α) (a : Nat) : ∀ e ∈ Tab.drop t a, e.1 ≠ a := by
  intro e he
  induction t with
  | nil => simp [Tab.drop] at he
  | cons x t ih =>
    obtain ⟨k, w⟩ := x
    unfold Tab.drop at he
    split at he
    · exact ih he
    · rename_i hk
      rcases List.mem_cons.mp he with rfl | h
      · exact hk
      · exact ih h

theorem Tab.wf_drop [DecidableEq α] {d : α} {t : Tab α} (a : Nat) (h : Tab.wf d t = true) : Tab.wf d (Tab.drop t a) = true := by
  induction t with
  | nil => rfl
  | cons e t ih =>
    obtain ⟨k, v⟩ := e
    simp only [Tab.wf, Bool.and_eq_true, decide_eq_true_eq] at h
    unfold Tab.drop
    split
    · exact ih h.2
    · simp only [Tab.wf, Bool.and_eq_true, decide_eq_true_eq]
      exact ⟨⟨h.1.1, Tab.rising_drop a h.1.2⟩, ih h.2⟩

theorem Tab.wf_ins [DecidableEq α] {d : α} {t : Tab α} {a : Nat} {v : α} (hv : v ≠ d) (h : Tab.wf d t = true)
    (hk : ∀ e ∈ t, e.1 ≠ a) : Tab.wf d (Tab.ins a v t) = true := by
  induction t with
  | nil => simp [Tab.ins, Tab.wf, Tab.rising, hv]
  | cons e t ih =>
    obtain ⟨k, w⟩ := e
    simp only [Tab.wf, Bool.and_eq_true, decide_eq_true_eq] at h
    have hka : k ≠ a := hk (k, w) (by simp)
    unfold Tab.ins
    split
    · rename_i hlt
      simp only [Tab.wf, Tab.rising, Bool.and_eq_true, decide_eq_true_eq]
      exact ⟨⟨hv, hlt, h.1.2⟩, ⟨h.1.1, h.1.2⟩, h.2⟩
    · simp only [Tab.wf, Bool.and_eq_true, decide_eq_true_eq]
      exact ⟨⟨h.1.1, Tab.rising_ins v h.1.2 (by omega) (fun e he => hk e (by simp [he]))⟩,
        ih h.2 (fun e he => hk e (by simp [he]))⟩

/-- A write keeps the canonical form. -/
theorem Tab.wf_put [DecidableEq α] {d : α} {t : Tab α} (a : Nat) (v : α) (h : Tab.wf d t = true) :
    Tab.wf d (Tab.put d t a v) = true := by
  unfold Tab.put
  split
  · exact Tab.wf_drop a h
  · rename_i hv; exact Tab.wf_ins hv (Tab.wf_drop a h) (Tab.drop_keys t a)

/-- Writing bytes keeps the canonical form. -/
theorem Tab.wf_putBytes {t : Tab Byte} (a : Nat) (bs : List Byte) (h : Tab.wf 0 t = true) :
    Tab.wf 0 (Tab.putBytes t a bs) = true := by
  induction bs generalizing t a with
  | nil => exact h
  | cons b bs ih => exact ih (a + 1) (Tab.wf_put a b h)

theorem Tab.rising_filter {t : Tab α} {b : Nat} (p : Nat × α → Bool) (h : Tab.rising b t = true) :
    Tab.rising b (t.filter p) = true := by
  induction t generalizing b with
  | nil => rfl
  | cons e t ih =>
    obtain ⟨k, v⟩ := e
    simp only [Tab.rising, Bool.and_eq_true, decide_eq_true_eq] at h
    simp only [List.filter_cons]
    split
    · simp only [Tab.rising, Bool.and_eq_true, decide_eq_true_eq]
      exact ⟨h.1, ih h.2⟩
    · exact ih (Tab.rising_weaken h.2 (by omega))

/-- Taking entries out keeps the canonical form. -/
theorem Tab.wf_filter [DecidableEq α] {d : α} {t : Tab α} (p : Nat × α → Bool) (h : Tab.wf d t = true) :
    Tab.wf d (t.filter p) = true := by
  induction t with
  | nil => rfl
  | cons e t ih =>
    obtain ⟨k, v⟩ := e
    simp only [Tab.wf, Bool.and_eq_true, decide_eq_true_eq] at h
    simp only [List.filter_cons]
    split
    · simp only [Tab.wf, Bool.and_eq_true, decide_eq_true_eq]
      exact ⟨⟨h.1.1, Tab.rising_filter p h.1.2⟩, ih h.2⟩
    · exact ih h.2

theorem Tab.rising_map {t : Tab α} {b : Nat} (f : α → α) (h : Tab.rising b t = true) :
    Tab.rising b (t.map (fun e => (e.1, f e.2))) = true := by
  induction t generalizing b with
  | nil => rfl
  | cons e t ih =>
    obtain ⟨k, v⟩ := e
    simp only [Tab.rising, Bool.and_eq_true, decide_eq_true_eq, List.map_cons] at h ⊢
    exact ⟨h.1, ih h.2⟩

/-- A map that drops what an unlisted key reads as gives a canonical table. -/
theorem Tab.wf_tabMap [DecidableEq α] {d : α} {t : Tab α} (f : α → α) (h : Tab.wf d t = true) :
    Tab.wf d (tabMap d f t) = true := by
  induction t with
  | nil => rfl
  | cons e t ih =>
    obtain ⟨k, v⟩ := e
    simp only [Tab.wf, Bool.and_eq_true, decide_eq_true_eq] at h
    have ih' := ih h.2
    unfold tabMap at ih' ⊢
    simp only [List.map_cons, List.filter_cons]
    split
    · rename_i hv
      simp only [Tab.wf, Bool.and_eq_true, decide_eq_true_eq]
      exact ⟨⟨by simpa using hv, Tab.rising_filter _ (Tab.rising_map f h.1.2)⟩, ih'⟩
    · exact ih'

/-- Equal reads of canonical tables are equal tables: a canonical table is read whole. -/
theorem Tab.get_of_rising {d : α} {t : Tab α} {b : Nat} (h : Tab.rising b t = true) (n : Nat) (hn : n ≤ b) :
    Tab.get d t n = d := by
  induction t generalizing b with
  | nil => rfl
  | cons e t ih =>
    obtain ⟨k, v⟩ := e
    simp only [Tab.rising, Bool.and_eq_true, decide_eq_true_eq] at h
    have hk : k ≠ n := by omega
    simp [Tab.get, hk, ih h.2 (by omega)]

/-! ## Bytes -/

@[simp] theorem leBytes_length (n v : Nat) : (leBytes n v).length = n := by
  induction n generalizing v with
  | zero => rfl
  | succ n ih => simp [leBytes, ih]

/-- A byte outside a write stays. -/
theorem Tab.get_putBytes_other (t : Tab Byte) (a : Nat) (bs : List Byte) (b : Nat) (h : b < a ∨ a + bs.length ≤ b) :
    Tab.get 0 (Tab.putBytes t a bs) b = Tab.get 0 t b := by
  induction bs generalizing t a with
  | nil => rfl
  | cons x bs ih =>
    have h1 : b < a + 1 ∨ a + 1 + bs.length ≤ b := by
      rcases h with h | h
      · left; omega
      · right; simp only [List.length_cons] at h; omega
    have h2 : a ≠ b := by
      rcases h with h | h
      · omega
      · simp only [List.length_cons] at h; omega
    simp only [Tab.putBytes]
    rw [ih _ _ h1, Tab.get_put_other 0 t x h2]

/-- A byte of a write reads back. -/
theorem Tab.get_putBytes_self (t : Tab Byte) (a : Nat) (bs : List Byte) (k : Nat) (h : k < bs.length) :
    Tab.get 0 (Tab.putBytes t a bs) (a + k) = bs.getD k 0 := by
  induction bs generalizing t a k with
  | nil => simp at h
  | cons x bs ih =>
    cases k with
    | zero =>
      simp only [Tab.putBytes, Nat.add_zero]
      rw [Tab.get_putBytes_other _ _ _ _ (by left; omega), Tab.get_put_self]
      rfl
    | succ k =>
      simp only [List.length_cons] at h
      simp only [Tab.putBytes]
      have := ih (Tab.put 0 t a x) (a + 1) k (by omega)
      rw [show a + (k + 1) = a + 1 + k by omega, this]
      simp

end Sys2Proof.Machine
end

