-- ==== Sys2Proof/Tests/Slice0.lean ====
section
/-! SUPPORT. Tests: what WellFormed refuses, one step's effect on small states, and for every obligation with hypotheses
a state and operands that meet them. Expected results come from the rules named. -/

namespace Sys2Proof.Tests
open Sys2Proof.Machine
set_option Elab.async false

/-! ## Small states -/

/-- A queue pair of 16 and 16 entries. -/
def qp16 : Qp := { valid := true, num := 1, sqBase := 0x1000, sqDepth := 16, cqBase := 0x2000, cqDepth := 16 }

/-- The PF with its tenant, and a VF with an active tenant of 16 slots. -/
def pf : FnRec := { port := { mse := true, bme := true, ready := true }, ten := { Tenant.zero with slots := 16 }
                    share := { cfg := ShareCfg.tenant0 } }
def vf : FnRec :=
  { port := { mse := true, bme := true, ready := true }
    ten := { st := .active, qpLimit := 8, msix := 14, slots := 16, pulpOn := 64, pulpHbm := 64, ksMib := 4 }
    share := { cfg := ShareCfg.fresh } }

/-- A device in service: the link up with four VFs, firmware running, four regions with one engine and one lane. -/
def sUp : State :=
  { State.reset with
    hif := { linkUp := true, rate := 4, width := 16, cfgReady := true, vfEnable := true, numVfs := 4 }
    fns := [(0, pf), (1, vf)], qm := { qps := [(0, qp16), (4096, { qp16 with num := 2 })] }
    orc := { tick := 100, regions := [{ inService := true }, { inService := true }, { inService := true }, { inService := true }],
             tableSet := true }
    eng := { cells := [(256, { inService := true }), (257, { inService := true }), (288, { inService := true }),
                       (1024, { inService := true })]
             gens := [(0, { seeded := true, last := 100 })] }
    hbm := { trained := true, fillDone := true, groups := 15, keyIn := some 0, keySeal := some 32, keyAuth := some 64 }
    vlt := { unsealed := true, aliasKeys := true, vek := true, ksKey := true }
    rng := { srcs := [{ ok := true }, { ok := true }, { ok := true }], ready := true, pool := 2 }
    mp := { service := true, running := true, katDone := true, bankA := Bank.release24 }
    rnd := { supply := 0, us := 1000, configValid := true, stored := true }
    flt := { cfgLoaded := true }, log := { ready := true }
    pwr := { vaon := true, main := true, perst := false, standby := true, rootLock := true, hbm0Lock := true, hbm1Lock := true } }

/-- A mailbox request of a function. -/
def mk (fn : Fin 1024) (l : List Nat) : MbReq := { fn := fn, len := 8 * l.length, words := l.map (BitVec.ofNat 64) }

/-- A state with its record of one group of registers changed. -/
def onHif (s : State) (f : Hif → Hif) : State := { s with hif := f s.hif }
def onPwr (s : State) (f : Pwr → Pwr) : State := { s with pwr := f s.pwr }
def onOrc (s : State) (f : Orc → Orc) : State := { s with orc := f s.orc }
def onRng (s : State) (f : Rng → Rng) : State := { s with rng := f s.rng }
def onRnd (s : State) (f : Rnd → Rnd) : State := { s with rnd := f s.rnd }
def onGrp (s : State) (f : Grp → Grp) : State := { s with grp := f s.grp }
def onMp (s : State) (f : Mp → Mp) : State := { s with mp := f s.mp }
def onLc (s : State) (f : Lc → Lc) : State := { s with lc := f s.lc }

/-- The device in a life-cycle state: rows burnt whole. -/
def inRows (s : State) (rows : Byte) : State := onLc s (fun l => { l with started := rows, complete := rows, ikh := 9, ikhSet := true })
def sMain : State := onPwr State.reset (fun p => { p with vaon := true })

/-! ## WellFormed refuses what does not exist -/

theorem test_wf_pip_128 : (Instr.waitwork .pip 128).wf = false := by decide
theorem test_wf_pip_127 : (Instr.waitwork .pip 127).wf = true := by decide
theorem test_wf_lane_class : (Instr.fragmentServiceEnd .med 0 {}).wf = false := by decide
theorem test_wf_queue_pair : (Instr.sqDb 0 4096 4 0).wf = false := by decide
theorem test_wf_entry_of_seven_words : (Instr.fetchIssue 0 0 (List.replicate 56 0)).wf = false := by decide
theorem test_wf_list_of_nine_bytes : (Instr.fragmentListRead 0 0 0 false (List.replicate 9 0)).wf = false := by decide
theorem test_wf_sensor_cell : (Instr.rindSensorEvent 12 1 {}).wf = false := by decide
theorem test_wf_boot_unit : (Instr.lcReset { katFail := [(.cip, 8)] }).wf = false := by decide
theorem test_wf_boot_sources : (Instr.lcReset { rngRuns := [0, 0, 0, 0] }).wf = false := by decide
theorem test_wf_reload_unit : (Instr.regionReloadDone 0 true [(.dig, 16)]).wf = false := by decide
theorem test_missing_unit_faults : exec (.waitwork .pip 128) sUp = .fault .noSuchUnit := rfl

/-! ## The hypotheses of each obligation can be met -/

theorem test_hyps_StepRunsFront :
    ({ sUp with pending := [.tickBoundary, .getpid] }).pending = .tickBoundary :: [.getpid]
      ∧ (let h := { sUp with sb := { sUp.sb with held := [.getEndpointId] } }
        h.pending = [] ∧ h.sb.held = .getEndpointId :: [] ∧ h.up = true ∧ h.pwr.state ≠ 4)
      ∧ (sUp.pending = [] ∧ sUp.sb.held = []) ∧ State.reset.up = false
      ∧ 2 ≤ (onPwr sUp (fun p => { p with state := 2 })).pwr.state := by decide

theorem test_hyps_EveryCommandRuns :
    (Instr.sqDb 0 4095 4 0).wf = true ∧ (Instr.rindSensorEvent 11 7 {}).wf = true
      ∧ exec (.scrubEnd .cip 8) sUp = .fault .noSuchUnit := ⟨by decide, by decide, rfl⟩

theorem test_hyps_QueueIsUntouched : exec .xtalStop sUp = .next { sUp with pwr := { sUp.pwr with xtal := false } } := rfl

theorem test_hyps_OtpOnlyGrows :
    step { inRows sUp 0xFF with pending := [.hotJoin] } = .next (inRows sUp 0xFF) ∧ rowBit (inRows sUp 0xFF).lc.started 7 = true
      ∧ rowBit (inRows sUp 0xFF).lc.complete 7 = true ∧ (inRows sUp 0xFF).scrapped = true
      ∧ ({ sUp with nv := { sUp.nv with fuses := 1 } }).nv.fuses.getLsbD 0 = true
      ∧ step { sUp with nv := { sUp.nv with fuses := 1 }, pending := [.hotJoin] } = .next { sUp with nv := { sUp.nv with fuses := 1 } } :=
  ⟨rfl, by decide, by decide, by decide, by decide, rfl⟩

theorem test_hyps_OtpOnlyGrows_otp : State.reset.otpWf := by
  intro r h; revert h; simp [State.reset, rowBit]

theorem test_hyps_TablesKeepTheirForm : sUp.tablesWf ∧ step { sUp with pending := [.hotJoin] } = .next sUp := by
  unfold State.tablesWf; exact ⟨by decide +kernel, rfl⟩

theorem test_hyps_ReadyFollowsItsConditions : sUp.tablesWf ∧ 1 ∈ sUp.fnList := by
  unfold State.tablesWf; decide +kernel

theorem test_hyps_MsixSendsOrHolds :
    ((vf.vec 13).mask = true ∧ vf.msixMask = false ∧ vf.port.bme = true)
      ∧ (sUp.reaches 1 = true ∧ (sUp.fn 1).port.mse = true ∧ 13 < (sUp.fn 1).ten.msix)
      ∧ (((sUp.setFn 1 { vf with msix := [(13, { mask := false })] }).fn 1).vec 13).mask = false
      ∧ sUp.reaches 5 = false ∧ (let s := sUp.setFn 1 { vf with port := {} }
        s.reaches 1 = true ∧ (s.fn 1).port.mse = false) ∧ (sUp.fn 1).ten.msix ≤ 14 := by decide +kernel

theorem test_hyps_ResponseFillsTheMailbox : 7 < ([1, 2, 3, 4, 5, 6, 7, 8] : List Byte).length ∧ (1 : Nat) ≠ 0 := by decide

theorem test_hyps_LedgerKeepsItsForm :
    Tab.wf 0 sUp.log.mem = true ∧ sUp.scrapped = false ∧ (inRows sUp 0xFF).scrapped = true
      ∧ ({ sUp with log := { sUp.log with newestTyp := some 7, newestBody := [3], newestOff := 0x40000 } }).logIsRepeat
          7 [3] = true := by decide +kernel

theorem test_hyps_RaisingAFault :
    srcReserved 2 = false ∧ srcReserved 255 = true ∧ srcReserved 63 = true := by decide +kernel

theorem test_hyps_SuppliesComeAndGo :
    (onPwr sUp (fun p => { p with vaon := false })).pwr.vaon = false ∧ sUp.pwr.vaon = true
      ∧ (onPwr State.reset (fun p => { p with main := false })).pwr.vaon = true
      ∧ (onPwr State.reset (fun p => { p with main := false })).pwr.main = false
      ∧ (onPwr State.reset (fun p => { p with main := false })).pwr.perst = true ∧ State.reset.pwr.main = true := by decide

theorem test_hyps_MainDomainGoesDown :
    sUp.pwr.perst = false ∧ (State.reset.pwr.main = true ∧ State.reset.pwr.perst = true) ∧ sUp.pwr.main = true
      ∧ sUp.pwr.vaon = true ∧ (sUp.up = true ∧ sUp.pwr.state ≠ 4 ∧ 115 ≤ (115 : Byte).toInt)
      ∧ (sUp.pwr.main = true ∧ sUp.scrapped = false ∧ sUp.pwr.extest = false)
      ∧ (let e := onPwr sUp (fun p => { p with extest := true }); e.pwr.main = true ∧ e.scrapped = false ∧ e.pwr.extest = true)
      ∧ (inRows sUp 0xFF).scrapped = true ∧ (inRows sUp 0xFF).pwr.main = true
      ∧ (onPwr sUp (fun p => { p with main := false, vaon := false, perst := true })).pwr.main = false
      ∧ (114 : Byte).toInt < 115 := by decide +kernel

theorem test_hyps_MainDomainComesUp :
    let held := onPwr State.reset (fun p => { p with held := true })
    let brown := onPwr sUp (fun p => { p with main := false })
    let due := onLc sUp (fun l => { l with schedLc := some 100 })
    (State.reset.pwr.vaon = true ∧ State.reset.pwr.main = true ∧ State.reset.pwr.perst = true ∧ State.reset.pwr.held = false
      ∧ State.reset.extestLoaded = false ∧ State.reset.interrupted = none ∧ State.reset.lc.token = none)
    ∧ (held.pwr.held = true ∧ (held.pwr.sampled [100, 100, 100, 100, 100]).cool = true
      ∧ (held.pwr.sampled [100, 100, 100, 100, 101]).cool = false)
    ∧ (brown.pwr.vaon = true ∧ brown.pwr.main = false ∧ brown.pwr.perst = false ∧ brown.pwr.held = false
      ∧ brown.pwr.extest = false ∧ brown.interrupted = none ∧ brown.lc.token = none)
    ∧ (due.up = true ∧ due.due due.lc.schedLc = true ∧ due.interrupted = none ∧ due.lc.token = none)
    ∧ (sUp.due sUp.lc.schedLc = false ∧ sUp.due sUp.lc.schedWarm = false) := by decide +kernel

/-- A token of R357 that takes MAKER to INTEGRATOR. -/
def tok1 (n : BitVec 128) : Token :=
  { len := 7540, format := 1, action := 1, frm := 1, toLc := 2, signer := 1, resvZero := true, deviceId := Config.deviceId,
    nonce := n, newIkh := 9, pkHash := 9, sigsOk := true }

theorem test_hyps_LifeCycleMovesByToken :
    let s := onLc sUp (fun l => { l with schedLc := some 100, token := some (tok1 5), retained := 5 })
    (s.up = true ∧ s.due s.lc.schedLc = true ∧ s.interrupted = none ∧ s.scrapped = false ∧ s.highAlarm = false)
      ∧ s.lc.token = some (tok1 5) ∧ (tok1 5).action = 1 ∧ s.tokenBad (tok1 5) s.lc.retained = none
      ∧ s.tokenSigsOk (tok1 5) = true := by
  refine ⟨by decide +kernel, rfl, rfl, ?_, by decide +kernel⟩
  simp [State.tokenBad, tok1, tokenSigner, onLc, sUp, State.reset, State.lcState, rowBit]

theorem test_hyps_WarmResetKeeps :
    let s := onLc sUp (fun l => { l with schedWarm := some 100 })
    (s.up = true ∧ s.due s.lc.schedLc = false ∧ s.due s.lc.schedWarm = true ∧ s.interrupted = none ∧ s.lc.token = none)
      ∧ s.tablesWf := by
  unfold State.tablesWf; decide +kernel

theorem test_hyps_LinkAndVfs :
    (sUp.up = true ∧ sUp.hif.linkUp = true ∧ sUp.reaches 0 = true ∧ sUp.scrapped = false ∧ sUp.hif.vfEnable = true)
      ∧ (trains 2 1 = true ∧ trains 4 16 = true)
      ∧ (let s := onHif sUp (fun h => { h with vfEnable := false }); s.reaches 0 = true ∧ s.hif.vfEnable = false)
      ∧ sUp.cfgReaches 4 = true
      ∧ (State.reset.up = false ∧ State.reset.reaches 0 = false ∧ State.reset.cfgReaches 0 = false ∧ trains 0 0 = false) := by
  decide +kernel

theorem test_hyps_FunctionReset :
    let s := sUp.setFn 1 { vf with port := { vf.port with flrBusy := true } }
    (sUp.tablesWf ∧ s.tablesWf) ∧ (sUp.cfgReaches 1 = true ∧ sUp.cfgReaches 0 = true ∧ sUp.hif.vfEnable = true
      ∧ (let p := onHif sUp (fun h => { h with vfEnable := false })
      p.cfgReaches 0 = true ∧ p.hif.vfEnable = false)) ∧ sUp.cfgReaches 5 = false
      ∧ (s.up = true ∧ (s.fn 1).port.flrBusy = true) ∧ (sUp.fn 1).port.flrBusy = false := by
  unfold State.tablesWf; decide +kernel

theorem test_hyps_IdeGuardsTheLink :
    let s := onHif sUp (fun h => { h with selSecure := 1, linkSecure := true, ideRequire := true })
    (s.up = true ∧ s.streamSecure 0 = true ∧ s.streamSecure 8 = true ∧ s.streamSecure 7 = false)
      ∧ (s.reaches 1 = true ∧ s.hif.ideRequire = true) ∧ sUp.hif.ideRequire = false ∧ sUp.streamSecure 8 = false := by
  decide +kernel

theorem test_hyps_FailedReadsAreMarked :
    let e := sUp.setQp 1 0 { qp16 with errCause := 2 }
    let f : Fetched := { entries := [[0, 0, 0, 0, 0, 0, 0, 0]] }
    let l := sUp.setQp 1 0 { qp16 with fetched := [f] }
    (sUp.up = true ∧ (sUp.qp 1 0).valid = true ∧ (sUp.qp 1 0).errCause = 0) ∧ (e.qp 1 0).errCause ≠ 0 ∧ 4095 < 4096
      ∧ (l.qp 1 0).fetched = f :: [] ∧ f.entries = [0, 0, 0, 0, 0, 0, 0, 0] :: [] ∧ (sUp.qp 1 0).fetched = []
      ∧ (sUp.item? 9).bind (·.step? 0) = none := by
  decide +kernel

theorem test_hyps_SpdmConnects :
    let on_ := fun (p : Spdm) => { sUp with spdm := p, sb := { eidValid := true, daValid := true } }
    let at_ := fun (p : Spdm) (t : Transport) => (on_ p).spdmUp t
    let agreed : Spdm := { versioned := true, caps := true, algs := true }
    (at_ {} .doe = true ∧ at_ {} .mctp = true ∧ agreed.versioned = true ∧ agreed.caps = true ∧ agreed.algs = true
      ∧ agreed.session = none ∧ sUp.vlt.aliasKeys = true ∧ ({} : Spdm).versioned = false ∧ ({} : Spdm).algs = false
      ∧ at_ agreed .doe = true ∧ at_ { agreed with session := some .doe } .doe = true
      ∧ at_ { agreed with session := some .mctp, finished := true } .mctp = true
      ∧ at_ { agreed with session := some .doe, finished := true } .doe = true)
    ∧ (onHif sUp (fun h => { h with keyed := 0x101 })).hif.keyed.getLsbD 8 = true ∧ sUp.hif.keyed.getLsbD 8 = false
    ∧ sUp.reaches 0 = true ∧ State.reset.spdmUp .doe = false ∧ State.reset.spdmUp .mctp = false ∧ State.reset.up = false
    ∧ State.reset.reaches 0 = false := by decide +kernel
/-! Items for the item path: one secret step on a Pip engine, one public step, one bulk lane step. -/

def pipEntry : OpEntry := { cls := .pip, env := 28, families := 1, outs := [{ len := 800 }] }
def pipStep : Step := { entry := pipEntry, secret := true, d := { key := noKey, key2 := noKey } }
def bulkStep : Step :=
  { entry := { cls := .dig, env := 5, envFrag := 30, families := 1, outs := [{ len := 32 }] }, secret := true, d := { bulk := true } }
def anItem (st : Step) : Item := { seq := 7, fn := 1, q := 0, qpn := 2, acc := 100, counted := true, steps := [st] }
/-- The device with one item, its step on the unit given by `job`. -/
def withItem (it : Item) : State := onOrc sUp (fun o => { o with items := [it] })
def atWork (c : UnitClass) (st : Step) : State :=
  (withItem (anItem { st with phase := .running, disp := some 100, first := some 100 })).setCell c 0
    { inService := true, job := some (7, 0) }
/-- A descriptor of R51: opcode, parameter, tag, input and output lengths. -/
def descr (op param inLen outLen : Nat) : List QWord :=
  [BitVec.ofNat 64 (op * 2 ^ 48 + param * 2 ^ 40 + 1), 0, noKey, noKey, 0x100000, BitVec.ofNat 64 (inLen * 2 ^ 32), 0x200000,
   BitVec.ofNat 64 (outLen * 2 ^ 32)]
/-- SHA-256 of 100 bytes, and a punnet header of n steps (R59). -/
def sha : List QWord := descr 0x0311 2 100 32
def header (n : Nat) : List QWord := [BitVec.ofNat 64 (2 ^ 36 + 1), 0, BitVec.ofNat 64 n, 0, 0, 0, 0, 0]
def isOk (x : Chk (List Step) × Nat) : Bool := match x with | (.ok _, _) => true | _ => false
def isBad (x : Chk (List Step) × Nat) : Bool := match x with | (.bad _ _, _) => true | _ => false

theorem test_hyps_FailedReadsAreMarked_data :
    let p := { pipStep with ins := [(0x1000, 8)], d := { pipStep.d with opcode := 0x0102, inLen := 8, inAddr := 0x1000 } }
    let s := atWork .pip p
    let o := atWork .pip { p with secret := false }
    (s.item? 7).isSome = true ∧ (o.item? 7).isSome = true
      ∧ (s.runningJob .pip 0).map (fun x => (x.2.phase, x.2.stop, x.2.readsHost, x.2.secret)) = some (.running, none, true, true)
      ∧ (o.runningJob .pip 0).map (fun x => (x.2.phase, x.2.stop, x.2.readsHost, x.2.secret)) = some (.running, none, true, false) := by
  decide +kernel

theorem test_hyps_DoorbellsMoveTheRings :
    let it := anItem pipStep
    let e := sUp.setQp 1 0 { qp16 with errCause := 2, cqTail := 3, cqHead := 1 }
    let w := withItem { it with tag := 5 }
    (sUp.reaches 1 = true ∧ (sUp.fn 1).port.mse = true ∧ sUp.scrapped = false)
    ∧ ((sUp.qp 1 0).valid = true ∧ (sUp.fn 1).port.ready = true ∧ (sUp.qp 1 0).errCause = 0 ∧ 15 < (sUp.qp 1 0).sqDepth
      ∧ (sUp.qp 1 0).sqDepth ≤ 16)
    ∧ ((sUp.qp 1 1).valid = false ∧ (e.qp 1 0).errCause ≠ 0)
    ∧ (∀ x ∈ w.orc.items, x.matches_ 1 0 6 = false)
    ∧ ((w.orc.items = [{ it with tag := 5 }]) ∧ ({ it with tag := 5 } : Item).matches_ 1 0 5 = true
      ∧ ∀ x ∈ it.steps, x.first = none)
    ∧ (ringDist 1 3 16 ≤ ringDist 1 3 16 ∧ ringDist 1 3 16 < ringDist 1 4 16)
    ∧ (it.live = true ∧ it.cancelled = false ∧ (it.punnet && it.postBegun 100) = false
      ∧ ({ it with cancelled := true } : Item).cancelled = true)
    ∧ (let m := sUp.setFn 1 { vf with port := {} }; m.reaches 1 = true ∧ (m.fn 1).port.mse = false)
    ∧ sUp.reaches 5 = false ∧ (let z := inRows sUp 0xFF; z.reaches 0 = true ∧ (z.fn 0).port.mse = true ∧ z.scrapped = true) := by
  decide +kernel

theorem test_hyps_FetchAndAcceptance :
    let p : Qp := { qp16 with sqTail := 1 }
    let s := sUp.setQp 1 0 p
    let f : Fetched := { entries := [sha] }
    let s2 := s.setQp 1 0 { qp16 with sqTail := 2 }
    (hostEntries (sha.flatMap (fun w => leBytes 8 w.toNat)) = sha :: [] ∧ hostEntries [] = [])
    ∧ (p.valid = true ∧ p.errCause = 0 ∧ s.fetchHeld 1 = false ∧ s.up = true ∧ (s.qp 1 0).waitingEntries ≠ 0
      ∧ (s.qp 1 0).slotFree = true)
    ∧ (kindOf sha = 0 ∧ kindOf (header 1) = 1 ∧ stepsOf (header 1) = 1 ∧ stepsOf (header 16) = 16
      ∧ stepsOf (header 14) + 1 ≤ (s.qp 1 0).sqDepth - 1 ∧ (s.qp 1 0).sqDepth - 1 < stepsOf (header 15) + 1
      ∧ stepsOf (header 1) + 1 ≤ (s2.qp 1 0).waitingEntries ∧ kindOf [BitVec.ofNat 64 (2 ^ 37)] = 2)
    ∧ (isOk (s.checkItem 1 f) = true ∧ isBad (s.checkItem 1 { entries := [descr 0xFFFF 0 0 0] }) = true
      ∧ s.orchardBad 1 0 [pipStep] = none ∧ s.orchardBad 1 1 [pipStep] ≠ none) := by decide +kernel

theorem test_hyps_FetchAndAcceptance_walk :
    let f : Fetched := { entries := [[0, 0, noKey, noKey, 0x100000, BitVec.ofNat 64 (2 ^ 32 + 256 * 2 ^ 16), 0, 0]] }
    ((f.desc 0).map (·.inFrags)) = some 256 ∧ listBad 256 0x100000 = false ∧ walkOf f.walks 0 false = none
      ∧ (sUp.setQp 1 0 { qp16 with fetched := [f] }).walkLimit 1 f 0 false ((f.desc 0).getD {}) ≠ none
      ∧ (fragEntries (List.replicate 4096 0)).length = 256 ∧ qp16.fetched = [] := by decide +kernel

theorem test_hyps_PlacingAndExpiry :
    let s := withItem (anItem pipStep)
    let drbg : Step := { pipStep with entry := { pipEntry with entropy := true } }
    let d := onRng (withItem (anItem drbg)) (fun r => { r with drbgFailed := true })
    let none_ := onOrc s (fun o => { o with regions := [{}, {}, {}, {}] })
    let late := onOrc (withItem { anItem pipStep with deadline := 27 }) (fun o => { o with tick := 100 })
    let w := onOrc (withItem (anItem { drbg with phase := .entropy false 100 })) (fun o => { o with tick := 50101 })
    ((s.item? 8).bind (·.step? 0) = none ∧ ({ pipStep with phase := .placed } : Step).phase ≠ .held)
    ∧ (s.item? 7 = some (anItem pipStep) ∧ (anItem pipStep).step? 0 = some pipStep ∧ s.up = true ∧ pipStep.phase = .held
      ∧ (anItem pipStep).ready pipStep = true)
    ∧ (d.item? 7 = some (anItem drbg) ∧ (anItem drbg).step? 0 = some drbg ∧ (anItem drbg).ready drbg = true
      ∧ d.entropyNeed (anItem drbg) drbg = some false)
    ∧ (s.entropyNeed (anItem pipStep) pipStep = none ∧ s.shortest .pip (s.candidates (anItem pipStep)) = some 0)
    ∧ (none_.entropyNeed (anItem pipStep) pipStep = none ∧ none_.shortest .pip (none_.candidates (anItem pipStep)) = none)
    ∧ (let a := onOrc s (fun o => { o with flowsPassed := [(1, 0, 99)] })
      a.orc.flowsPassed.any (fun x => x.1 == 1 && x.2.1 == 0 && decide (x.2.2 < a.now)) = true
        ∧ a.orc.items.find? (fun x => x.counted && x.fn == 1 && x.flow == 0) = some (anItem pipStep))
    ∧ (late.orc.items = [{ anItem pipStep with deadline := 27 }] ∧ late.expired { anItem pipStep with deadline := 27 } = some pipStep)
    ∧ (∀ it ∈ s.orc.items, s.expired it = none)
    ∧ (let x := onRng w (fun r => { r with drbgFailed := true })
      x.orc.items = [anItem { drbg with phase := .entropy false 100 }] ∧ (anItem drbg).serves drbg = true
        ∧ 100 + 50000 < x.now) := by
  decide +kernel

theorem test_hyps_WorkMeetsUnits :
    let st : Step := { pipStep with phase := .placed }
    let s := (withItem (anItem st)).setCell .pip 0 { inService := true, waiting := some 99 }
    let neg := sUp.setCell .pip 127 { credit := -3200 }
    let stop := atWork .pip { pipStep with stop := some .cancel }
    let scrub := sUp.setCell .pip 0 { inService := true, scrubbing := true }
    (unitOk .pip 127 = true ∧ sUp.up = true ∧ (sUp.cell .pip 1).job = none ∧ (sUp.cell .pip 1).scrubbing = false
      ∧ (sUp.cell .pip 1).waiting = none ∧ 0 ≤ (sUp.cell .pip 1).credit)
    ∧ (s.up = true ∧ s.pwr.state = 0 ∧ s.pwr.exiting = false ∧ (s.region 0).inService = true
      ∧ (s.pickOf .pip 0 (s.readyList .pip 0)).map (fun p => (p.it, p.st)) = some (anItem st, st)
      ∧ s.halted = false ∧ (anItem st).pastDeadline st s.now = false ∧ st.heldAt ≠ some s.now ∧ s.attemptBad (anItem st) st = none ∧ s.useFits st = true ∧ s.pickUnit .pip 0 st = some 0
      ∧ s.budgetBad (anItem st) st 0 = none)
    ∧ ((onOrc sUp (fun o => { o with regions := [{}, {}, {}, {}] })).region 3).inService = false
    ∧ sUp.pickOf .pip 0 (sUp.readyList .pip 0) = none ∧ stop.stopPending .pip 1 = false
    ∧ (let held := { st with heldAt := some 100 }; ((onOrc s (fun o => { o with items := [anItem held] })).pickOf .pip 0
        ((onOrc s (fun o => { o with items := [anItem held] })).readyList .pip 0)).map (·.st) = some held)
    ∧ (onRnd s (fun r => { r with level := 3 })).halted = true
    ∧ (let late := { anItem st with deadline := 10 }; late.pastDeadline st s.now = true ∧ ((onOrc s (fun o => { o with
        items := [late] })).pickOf .pip 0 ((onOrc s (fun o => { o with items := [late] })).readyList .pip 0)).isSome = true)
    ∧ ((neg.cell .pip 127).job = none ∧ (neg.cell .pip 127).scrubbing = false ∧ (neg.cell .pip 127).waiting = none
      ∧ (neg.cell .pip 127).credit < 0 ∧ -3200 ≤ (neg.cell .pip 127).credit)
    ∧ stop.stopPending .pip 0 = true ∧ (scrub.cell .pip 0).scrubbing = true ∧ unitOk .dig 15 = true := by decide +kernel

/-- Work that fills the delay memory of R83, so that a secret step's results do not fit. -/
theorem test_hyps_WorkMeetsUnits_budget :
    let big : Step := { pipStep with phase := .placed, entry := { pipEntry with outs := [{ len := 100000000 }] } }
    let s := (withItem (anItem big)).setCell .pip 0 { inService := true, waiting := some 99 }
    (s.pickOf .pip 0 (s.readyList .pip 0)).map (fun p => (p.it, p.st)) = some (anItem big, big)
      ∧ s.attemptBad (anItem big) big = none ∧ s.useFits big = true ∧ s.pickUnit .pip 0 big = some 0
      ∧ s.budgetBad (anItem big) big 0 = some 128 := by decide +kernel

theorem test_hyps_JobsEnd :
    let gen := { pipStep with d := { pipStep.d with opcode := 0x0104 } }
    let sig := { pipStep with secret := false, d := { pipStep.d with opcode := 0x0113 } }
    let hsh := { bulkStep with d := { bulkStep.d with opcode := 0x0311, bulk := true } }
    let p := atWork .pip gen
    let pub := atWork .pip sig
    let lane := atWork .dig hsh
    let open_ := atWork .dig { hsh with secret := false }
    (unitOk .pip 0 = true ∧ sUp.runningJob .pip 0 = none
      ∧ (p.runningJob .pip 0).map (fun x => (x.2.secret, x.2.isService, x.2.isLane, x.2.overdue p.now, jobEnds false x.2 {}))
        = some (true, false, false, false, true))
    ∧ (pub.runningJob .pip 0).map (fun x => (x.2.secret, x.2.isService, jobEnds false x.2 {})) = some (false, false, true)
    ∧ (lane.runningJob .dig 0).map (fun x => (x.2.secret, x.2.isService, x.2.lastSvc)) = some (true, true, true)
    ∧ (open_.runningJob .dig 0).map (fun x => (x.2.secret, x.2.isLane, x.2.isService, serviceEnds false x.2 true {}))
        = some (false, true, true, true)
    ∧ ((atWork .dig { hsh with secret := false, inFrags := [8, 8] }).runningJob .dig 0).map (fun x => (x.2.isService, x.2.lastSvc,
        serviceEnds false x.2 false {})) = some (true, false, true)
    ∧ (jobEnds true gen { status := .deviceFault, reason := .engineFault } = true ∧ jobEnds false gen { status := .okFalse } = false
      ∧ jobEnds true sig { status := .deviceFault, reason := .engineFault } = true) := by decide +kernel

theorem test_hyps_JobsEnd_late :
    let st := { pipStep with secret := true, ins := [(0x1000, 8)], d := { pipStep.d with opcode := 0x0102, inLen := 8, inAddr := 0x1000 } }
    let s := onOrc (atWork .pip st) (fun o => { o with tick := 1000 })
    (s.runningJob .pip 0).map (fun x => (x.2.secret, x.2.readsHost, x.2.allowanceOver s.now)) = some (true, true, true)
      ∧ (s.runningJob .pip 0).map (fun x => x.2.allowanceOver 100) = some false ∧ UnitClass.isLane .cip = true := by decide +kernel

theorem test_hyps_UncorrectedFaultsTakeUnits :
    let s := atWork .pip pipStep
    (s.up = true ∧ faultFits .pip .ecc = true ∧ faultFits .dig .laneMismatch = true ∧ (s.cell .pip 1).inService = true
      ∧ s.jobOf .pip 1 = none ∧ unitOk .cip 7 = true)
    ∧ ((s.cell .pip 0).job.isSome = true ∧ (s.cell .pip 0).scrubbing = false) ∧ faultFits .pip .laneMismatch = false
    ∧ ((s.cell .pip 5).inService = false ∧ (s.cell .pip 5).job = none ∧ (s.cell .pip 5).scrubbing = false) := by decide +kernel

theorem test_hyps_ChangesTakeEffectAtTheBoundary :
    let p4 := onPwr sUp (fun p => { p with state := 4 })
    let pol := { sUp with flt := { sUp.flt with policyNext := [[2, 10, 20, 30]] } }
    State.reset.up = false ∧ p4.pwr.state = 4 ∧ (pol.up = true ∧ pol.pwr.state ≠ 4 ∧ pol.orc.items = [] ∧ pol.tablesWf
      ∧ pol.flt.policyNext = [[2, 10, 20, 30]]) := by
  unfold State.tablesWf; decide +kernel

theorem test_hyps_DueTicksPost :
    let a : Step := { pipStep with phase := .staged, due := some 100, res := some {} }
    let e : Step := { pipStep with phase := .running, due := some 100, entry := { pipEntry with ext := true } }
    let o : Step := { pipStep with phase := .running, due := some 100 }
    let f : Step := { bulkStep with phase := .staged, due := some 100, res := some {} }
    (sUp.dueList false = [] ∧ sUp.dueList true = []) ∧ (∀ st ∈ [a, e, o, f],
      (withItem (anItem st)).orc.items = [anItem st] ∧ (anItem st).steps = [st] ∧ (anItem st).punnet = false
        ∧ (anItem st).decided = none ∧ st.secret = true ∧ st.due = some 100
        ∧ 100 ≤ (withItem (anItem st)).now)
    ∧ (a.isService = false ∧ e.isService = false ∧ e.entry.ext = true ∧ e.extended = false ∧ o.isService = false
      ∧ o.entry.ext = false ∧ f.isService = true) := by decide +kernel

theorem test_hyps_PortsAndTimers :
    let st : Step := { bulkStep with phase := .port, portLeft := 100000, portAt := some 100, region := 0 }
    let s := withItem (anItem st)
    let q := sUp.setQp 1 0 { qp16 with coalTime := 10, unsig := 1, oldest := 90 }
    (s.orc.items = [anItem st] ∧ st.phase = .port ∧ st.entry.cls = groupClass 4 ∧ st.region = groupRegion 4
      ∧ 0 < s.portTake 4 st ∧ s.portTake 4 st < st.portLeft ∧ 100 ≤ s.now)
    ∧ (∀ it ∈ sUp.orc.items, ∀ st ∈ it.steps, st.phase ≠ .port) ∧ (q.qp 1 0).timeDue q.now = true
    ∧ (let l := { sUp with log := { sUp.log with opSec := 60 } }
      l.pwr.main = true ∧ l.log.opStored + 60 ≤ l.log.opSec) := by decide +kernel

theorem test_hyps_CompletionsGoToTheTail :
    (sUp.fn 1).port.bme = true ∧ (anItem pipStep).q < 4096
      ∧ (let s := sUp.setPort 1 { vf.port with bme := false }
        (s.fn 1).port.bme = false ∧ (s.qp 1 0).errCause = 0) := by decide +kernel

/-! Requests to the mailbox. -/

theorem test_hyps_MailboxChecksAndStatus :
    let off := onMp sUp (fun m => { m with service := false })
    let busy := off.setFn 1 { vf with mb := { busy := true } }
    let susp := sUp.setTen 1 { vf.ten with st := .suspended }
    (off.mbReaches 1 = true ∧ off.serves 1 = false ∧ (off.fn 1).mb.busy = false ∧ busy.mbReaches 1 = true
      ∧ busy.serves 1 = false ∧ (busy.fn 1).mb.busy = true)
    ∧ (sUp.mbReaches 1 = true ∧ sUp.serves 1 = true ∧ (sUp.fn 1).mb.busy = false ∧ (mk 1 []).format = 1 ∧ (mk 1 []).resv = false
      ∧ cmdOf 0x0999 = none ∧ (cmdOf 0x0201).map (fun c => sUp.cmdServed 1 c) = some false)
    ∧ ((cmdOf 0x0101).map (fun c => ((sUp.mbGo 1).cmdServed 1 c, (sUp.mbGo 1).lcPermits c, c.status)) = some (true, true, false)
      ∧ (cmdOf 0x0801).map (fun c => (onLc sUp (fun l => { l with started := 0x3F })).lcPermits c) = some false
      ∧ (mk 1 [0, 0, 0, 0, 0, 0, 0, 0]).len ∈ [64] ∧ (mk 1 [0]).len ∉ [64]
      ∧ ({ mk 1 [] with format := 2 } : MbReq).format ≠ 1 ∧ ({ mk 1 [] with resv := true } : MbReq).resv = true
      ∧ resvSet [0] (mk 1 [1]).words = true ∧ resvSet [1] (mk 1 [1]).words = false
      ∧ (susp.fn 1).ten.st = .suspended ∧ (sUp.fn 1).ten.st = .active)
    ∧ (sUp.mbTakes 0x0001 (mk 1 []) [0] [] ∧ sUp.mbTakes 0x0002 (mk 0 []) [0] []
      ∧ sUp.mbTakes 0x0207 (mk 0 [1023]) [8] [] ∧ (mk 0 [1023]).w 0 ≤ 1023
      ∧ sUp.mbTakes 0x0207 (mk 0 [1024]) [8] [] ∧ 1023 < (mk 0 [1024]).w 0
      ∧ sUp.mbTakes 0x0901 (mk 0 [0, 16]) [16] [] ∧ logLimits 0 16 = true
      ∧ sUp.mbTakes 0x0901 (mk 0 [0, 12]) [16] [] ∧ logLimits 0 12 = false) := by
  unfold State.mbTakes; decide +kernel

theorem test_hyps_QueuePairsAreMadeAndDeleted :
    let r := mk 1 [7, 0x1000, 16, 0x2000, 16, 13, 256, 65535]
    let busy := sUp.setQp 1 0 { qp16 with outstanding := 1 }
    (sUp.mbTakes 0x0101 r [64] [] ∧ (sUp.mbGo 1).qpFits 1 r = true ∧ r.w 0 < 4096)
    ∧ (let z := mk 1 [7, 0x1000, 16, 0x2000, 16, 14, 256, 65535]
      sUp.mbTakes 0x0101 z [64] [] ∧ (sUp.mbGo 1).qpFits 1 z = false)
    ∧ (sUp.mbTakes 0x0102 (mk 1 [0]) [8] [] ∧ (sUp.mbGo 1).holdsIdx 1 0 = true ∧ ((sUp.mbGo 1).qp 1 0).outstanding = 0
      ∧ busy.mbTakes 0x0102 (mk 1 [0]) [8] [] ∧ (busy.mbGo 1).holdsIdx 1 0 = true ∧ ((busy.mbGo 1).qp 1 0).outstanding ≠ 0)
    ∧ (sUp.mbTakes 0x0103 (mk 1 [0, 13, 256, 65535]) [32] [] ∧ 13 < ((sUp.mbGo 1).fn 1).ten.msix ∧ coalOk 256 65535 = true
      ∧ coalOk 1 0 = true ∧ sUp.mbTakes 0x0103 (mk 1 [1, 14, 0, 0]) [32] [] ∧ (sUp.mbGo 1).holdsIdx 1 1 = false
      ∧ ((sUp.mbGo 1).fn 1).ten.msix ≤ 14 ∧ coalOk 0 0 = false)
    ∧ (sUp.mbTakes 0x0102 (mk 1 [1]) [8] [] ∧ (sUp.mbGo 1).holdsIdx 1 1 = false)
    ∧ sUp.mbTakes 0x0104 (mk 1 []) [0] [] := by
  unfold State.mbTakes; decide +kernel

theorem test_hyps_TenantsComeAndGo :
    let c := mk 0 [1023, 8, 0, 16, 64, 64, 4]
    let d := mk 0 [2, 8, 0, 16, 64, 64, 4, 255, 0, 0, 1, 1000]
    let s := sUp.setTen 1 { vf.ten with st := .suspended }
    let gone := { s with qm := {} }
    let t := sUp.mbGo 0
    (sUp.mbTakes 0x0201 c [56, 96] [] ∧ (t.fn 1023).ten.st = .notCreated ∧ t.allotBad 1023 (c.allots (t.fn 1023).ten 1) = none
      ∧ t.heapFits (kemDk 2) = true ∧ ShareCfg.fresh.ok = true)
    ∧ (sUp.mbTakes 0x0201 d [56, 96] [] ∧ (d.share 7).ok = true ∧ t.allotBad 2 (d.allots (t.fn 2).ten 1) = none)
    ∧ (sUp.mbTakes 0x0202 (mk 0 [1]) [8] [] ∧ (t.fn 1).ten.st ≠ .notCreated)
    ∧ (s.mbTakes 0x0203 (mk 0 [1]) [8] [] ∧ ((s.mbGo 0).fn 1).ten.st ≠ .notCreated)
    ∧ (gone.mbTakes 0x0204 (mk 0 [1]) [8] [] ∧ ((gone.mbGo 0).fn 1).ten.st = .suspended ∧ (gone.mbGo 0).holdsQp 1 = false)
    ∧ (sUp.mbTakes 0x0205 (mk 0 [0, 1, 4294967294, 4294967295, 65535, 1]) [48] []
      ∧ ((mk 0 [0, 1, 4294967294, 4294967295, 65535, 1]).share 1).ok = true)
    ∧ (let a := mk 0 [1, 8, 0, 20, 64, 128, 4]
      sUp.mbTakes 0x0206 a [56] [] ∧ t.allotBad 1 (a.allots (t.fn 1).ten 1) = none) := by
  unfold State.mbTakes; decide +kernel

theorem test_hyps_TenantsComeAndGo_refused :
    let s := sUp.setTen 1 { vf.ten with st := .suspended }
    let t := sUp.mbGo 0
    (sUp.mbTakes 0x0201 (mk 0 [0, 8, 0, 16, 64, 64, 4]) [56, 96] [] ∧ sUp.mbTakes 0x0201 (mk 0 [1024, 8, 0, 16, 64, 64, 4]) [56, 96] []
      ∧ sUp.mbTakes 0x0201 (mk 0 [1, 8, 0, 16, 64, 64, 4]) [56, 96] [])
    ∧ (s.mbTakes 0x0204 (mk 0 [1]) [8] [] ∧ (s.mbGo 0).holdsQp 1 = true ∧ sUp.mbTakes 0x0204 (mk 0 [1]) [8] []
      ∧ (t.fn 1).ten.st = .active)
    ∧ (sUp.mbTakes 0x0202 (mk 0 [9]) [8] [] ∧ sUp.mbTakes 0x0203 (mk 0 [9]) [8] [] ∧ sUp.mbTakes 0x0204 (mk 0 [9]) [8] []
      ∧ sUp.mbTakes 0x0205 (mk 0 [9, 0, 0, 0, 0, 0]) [48] [] ∧ sUp.mbTakes 0x0206 (mk 0 [9, 0, 0, 0, 0, 0, 0]) [56] []
      ∧ (t.fn 9).ten.st = .notCreated)
    ∧ (sUp.mbTakes 0x0206 (mk 0 [1, 4097, 0, 0, 0, 0, 0]) [56] []
      ∧ (t.allotBad 1 ((mk 0 [1, 4097, 0, 0, 0, 0, 0]).allots (t.fn 1).ten 1)).isSome = true) := by
  unfold State.mbTakes; decide +kernel

/-- A public ML-DSA-65 key of tenant 0 in slot 3 that the shared pool may take (R213, R292). -/
def sPub : State :=
  ({ sUp with pulp := { resOn := 16, resHbm := 4 } }).setSlot 0 3
    { occ := true, attr := BitVec.ofNat 64 (0x22 * 2 ^ 56 + 3 * 2 ^ 48 + 2 ^ 33 + 2 ^ 27), len := 1952 }

theorem test_hyps_PulpIsSizedAndShared :
    let t := sUp.mbGo 0
    let p := sPub.mbGo 0
    let pool : State := { sPub with pulp := { sPub.pulp with shared := [{ handle := 3, kib := 16, onChip := false, entry := none }] } }
    (sUp.mbTakes 0x0301 (mk 0 [32, 4096, 4096]) [24] [] ∧ 4096 + t.sumTen (·.pulpOn) ≤ 16384
      ∧ 4096 + t.sumTen (·.pulpHbm) ≤ (t.setPulp { t.pulp with tier := 32, resOn := 64, resHbm := 64 }).tierMib
      ∧ t.sharedKib true ≤ 4096 ∧ t.sharedKib false ≤ 1024 * 4096)
    ∧ (sPub.mbTakes 0x0302 (mk 0 [3, 1]) [16] []
      ∧ p.findKey 0 3 true false none = .attr (p.slot 0 3).attr 1952 ∧ aShared (p.slot 0 3).attr = true
      ∧ publicTypes.contains (aType (p.slot 0 3).attr) = true ∧ p.isShared 3 = false
      ∧ p.sharedKib false + attrKib (p.slot 0 3).attr ≤ 65536 * p.pulp.resHbm)
    ∧ (pool.mbTakes 0x0303 (mk 0 [3]) [8] [] ∧ (pool.mbGo 0).pulp.shared.any (fun x => x.handle == 3) = true)
    ∧ (let w := pool.setCell .pip 0 { inService := true, waiting := some 0 }
      w.pulp.shared[0]? = some { handle := 3, kib := 16, onChip := false, entry := none } ∧ w.up = true
      ∧ w.pwr.state = 0 ∧ w.mp.running = true ∧ w.vlt.unsealed = true ∧ w.isShared 3 = true
      ∧ w.sharedStale { handle := 3, kib := 16, onChip := false, entry := none } 0 = true ∧ w.idlePip 0 = true
      ∧ (onPwr pool (fun q => { q with state := 1 })).pulp.shared[0]? = some { handle := 3, kib := 16, onChip := false, entry := none }) := by
  unfold State.mbTakes; decide +kernel

theorem test_hyps_PulpIsSizedAndShared_refused :
    let t := sUp.mbGo 0
    let p := sPub.mbGo 0
    let pool : State := { sPub with pulp := { sPub.pulp with shared := [{ handle := 3, kib := 16, onChip := false, entry := none }] } }
    (sUp.mbTakes 0x0301 (mk 0 [33, 0, 0]) [24] [] ∧ ¬(33 ≤ 32) ∧ sUp.mbTakes 0x0301 (mk 0 [1, 4096, 4096]) [24] []
      ∧ ¬(4096 + t.sumTen (·.pulpHbm) ≤ (t.setPulp { t.pulp with tier := 1, resOn := 64, resHbm := 64 }).tierMib)
      ∧ pool.mbTakes 0x0301 (mk 0 [32, 4096, 0]) [24] []
      ∧ 0 + (pool.mbGo 0).sumTen (·.pulpHbm) ≤ ((pool.mbGo 0).setPulp { (pool.mbGo 0).pulp with tier := 32, resOn := 64, resHbm := 0 }).tierMib
      ∧ ¬((pool.mbGo 0).sharedKib false ≤ 1024 * 0))
    ∧ (let z := { sPub with pulp := {} }
      let own := sPub.setSlot 0 3 { occ := true, attr := BitVec.ofNat 64 (0x22 * 2 ^ 56 + 3 * 2 ^ 48 + 2 ^ 33), len := 1952 }
      z.mbTakes 0x0302 (mk 0 [3, 0]) [16] [] ∧ (z.mbGo 0).findKey 0 3 true false none = .attr (z.slot 0 3).attr 1952
        ∧ 64 * (z.mbGo 0).pulp.resOn < (z.mbGo 0).sharedKib true + attrKib (z.slot 0 3).attr
        ∧ own.mbTakes 0x0302 (mk 0 [3, 1]) [16] [] ∧ (own.mbGo 0).findKey 0 3 true false none = .attr (own.slot 0 3).attr 1952
        ∧ aShared (own.slot 0 3).attr = false)
    ∧ (sPub.mbTakes 0x0303 (mk 0 [3]) [8] [] ∧ p.pulp.shared.any (fun x => x.handle == 3) = false) := by
  unfold State.mbTakes; decide +kernel

/-- Authority keys in slots 1 and 2 of tenant 1, a wrapping key in slot 6 and an exportable one in slot 7 (R291, R292). -/
def sKeys : State :=
  (((sUp.setSlot 1 1 { occ := true, attr := authorityAttr 1, len := 2592 }).setSlot 1 2
    { occ := true, attr := authorityAttr 2, len := 97 }).setSlot 1 6
    { occ := true, attr := BitVec.ofNat 64 (0x01 * 2 ^ 56 + 3 * 2 ^ 48 + (uWrap + uUnwrap) * 2 ^ 32 + 2 ^ 25), len := 32 }).setSlot 1 7
    { occ := true, attr := BitVec.ofNat 64 (0x01 * 2 ^ 56 + 3 * 2 ^ 48 + uEncrypt * 2 ^ 32 + 2 ^ 28 + 2 ^ 25), len := 32 }

/-- A key-update message of R298 that writes an AES-128 key into slot 5. -/
def newKey : UpdateMsg :=
  { action := 1, tenant := 1, slot := 5, payloadLen := 24, counter := 1, deviceId := Config.deviceId, importId := 0, hash := 9
    attr := BitVec.ofNat 64 (0x01 * 2 ^ 56 + 1 * 2 ^ 48 + (uEncrypt + uDecrypt) * 2 ^ 32), keyLen := 16 }

/-- With the right device ID, the checks of R299 do not depend on which it is. -/
theorem updateBad_of_id (s : State) (t : Nat) (m : UpdateMsg) (h : m.deviceId = Config.deviceId) (h1 : m.format = 1)
    (h2 : UpdateOk m = true) :
    s.updateBad t m = if m.tenant ≠ t then some .keyTenant
      else if !((s.slot t 1).occ && (s.slot t 2).occ) then some .keyAbsent
      else if !(m.sigAOk && m.sigBOk) then some .badFormat else none := by
  simp [State.updateBad, h, h1, h2]

theorem test_hyps_KeysGoIn_update :
    let x := sKeys.mbGo 1
    (sKeys.mbTakes 0x0401 (mk 1 [0, 100]) [16] [] ∧ x.readable 1 newKey.readOk = true ∧ newKey.slot < 8192)
    ∧ (x.updateBad 1 newKey = none ∧ x.isApplied 1 newKey = false ∧ x.updateLate 1 newKey = none ∧ x.commits = true
      ∧ x.updateFits 1 newKey = true)
    ∧ (let a := (sKeys.setSlot 1 5 { occ := true, counter := 1, hash := 9 }).mbGo 1
      a.updateBad 1 newKey = none ∧ a.isApplied 1 newKey = true ∧ a.mirrors 1 = false)
    ∧ x.updateBad 1 { newKey with tenant := 2 } = some .keyTenant
    ∧ (x.updateBad 1 { newKey with counter := 2 } = none ∧ x.isApplied 1 { newKey with counter := 2 } = false
      ∧ x.updateLate 1 { newKey with counter := 2 } = some .badRange) := by
  unfold State.mbTakes
  refine ⟨by decide +kernel, ⟨?_, by decide +kernel⟩, ⟨?_, by decide +kernel⟩, ?_, ?_, by decide +kernel⟩ <;>
    rw [updateBad_of_id _ _ _ rfl rfl (by decide +kernel)] <;> decide +kernel

theorem test_hyps_KeysGoIn :
    let pub : Nat := 0x22 * 2 ^ 56 + 3 * 2 ^ 48 + uVerify * 2 ^ 32
    let r := mk 1 [15, pub, 0, 1952]
    let x := sKeys.mbGo 1
    let b : BlobIn := { tenant := 1, kekSlot := 6, keyLen := 16
                        attr := BitVec.ofNat 64 (0x01 * 2 ^ 56 + 1 * 2 ^ 48 + uEncrypt * 2 ^ 32 + 2 ^ 25) }
    (sKeys.mbTakes 0x0402 r [32] [] ∧ x.readable 1 true = true ∧ 2 < r.w 0 ∧ r.w 0 < (x.fn 1).ten.slots
      ∧ (x.slot 1 15).taken = false ∧ aType (stampSecret (BitVec.ofNat 64 pub)) ≠ 0x29 ∧ publicTypes.contains (aType (stampSecret (BitVec.ofNat 64 pub))) = true
      ∧ attrOk 1 15 (stampSecret (BitVec.ofNat 64 pub)) = true ∧ aCounted (stampSecret (BitVec.ofNat 64 pub)) = false
      ∧ x.commits = true ∧ x.heapFits 1952 = true)
    ∧ (∀ n ∈ [1, 2], let a := mk 0 [1, n, 0, authorityLen n]; let y := sUp.mbGo 0
      sUp.mbTakes 0x0408 a [32] [] ∧ y.readable 0 true = true ∧ y.readable 0 false = false ∧ (y.fn 1).ten.st ≠ .notCreated ∧ (y.slot 1 n).taken = false
        ∧ a.w 3 = authorityLen (a.w 1) ∧ y.commits = true ∧ y.heapFits (a.w 3) = true)
    ∧ (let k := mk 1 [0, 64, 2 ^ 54 + 2 ^ 52 + 3]
      sKeys.mbTakes 0x0405 k [24] [] ∧ x.destBad 1 (k.words.getD 2 0) 1 b.keyLen = none ∧ x.readable 1 b.readOk = true
        ∧ k.w 1 = blobBytes b.keyLen ∧ x.blobBad 1 b = none ∧ x.commits = true ∧ x.vlt.ksKey = true
        ∧ x.readable 1 ({ b with readOk := false } : BlobIn).readOk = false
        ∧ (x.blobBad 1 { b with tenant := 2 }).isSome = true ∧ (x.destBad 1 0 1 b.keyLen).isSome = true
        ∧ sKeys.mbTakes 0x0405 (mk 1 [0, 64, 0]) [24] []) := by
  unfold State.mbTakes; decide +kernel

/-- The import key of tenant 1 in its slot 0. -/
def sImp : State := sKeys.setSlot 1 0 { occ := true, len := 3168 }

theorem test_hyps_KeysAreReadOut :
    let x := sKeys.mbGo 1
    let h := 2 ^ 54 + 7
    (sKeys.mbTakes 0x0403 (mk 1 [h]) [8] [] ∧ hTenant (BitVec.ofNat 64 h) = 1 ∧ hLoc (BitVec.ofNat 64 h) = 0
      ∧ hIndex (BitVec.ofNat 64 h) ≠ 0 ∧ hIndex (BitVec.ofNat 64 h) < (x.fn 1).ten.slots)
    ∧ (sKeys.mbTakes 0x0404 (mk 1 [h, 2 ^ 54 + 6, 0x40, 80]) [32] [] ∧ (x.heldKey (BitVec.ofNat 64 h)).isSome = true
      ∧ (x.heldKey (BitVec.ofNat 64 h)).map (fun k => (aExportable k.1, k.2.2.1)) = some (true, 32)
      ∧ x.wrapBad 1 (BitVec.ofNat 64 (2 ^ 54 + 6)) = none ∧ blobBytes 32 ≤ 80 ∧ x.commits = true)
    ∧ hTenant (BitVec.ofNat 64 (2 ^ 55 + 7)) ≠ 1
    ∧ (sKeys.mbTakes 0x0406 (mk 1 [h, 5, 6, 0x1000, 4851]) [40] [] ∧ 4851 ≤ (mk 1 [h, 5, 6, 0x1000, 4851]).w 4
      ∧ x.vlt.aliasKeys = true ∧ x.commits = true)
    ∧ sKeys.mbTakes 0x0407 (mk 1 [1, 65536, 3776]) [24] [] ∧ sKeys.mbTakes 0x0407 (mk 1 [2, 0, 8]) [24] [] := by
  unfold State.mbTakes; decide +kernel

theorem test_hyps_KeysGoIn_refused :
    let pub : Nat := 0x22 * 2 ^ 56 + 3 * 2 ^ 48 + uVerify * 2 ^ 32
    let x := sKeys.mbGo 1
    (sKeys.mbTakes 0x0402 (mk 1 [2, pub, 0, 1952]) [32] [] ∧ ¬(2 < 2) ∧ sKeys.mbTakes 0x0402 (mk 1 [15, 2 ^ 56, 0, 32]) [32] []
      ∧ aType (stampSecret (BitVec.ofNat 64 (2 ^ 56))) ≠ 0x29 ∧ publicTypes.contains (aType (stampSecret (BitVec.ofNat 64 (2 ^ 56)))) = false
      ∧ x.readable 1 false = false)
    ∧ (sKeys.mbTakes 0x0408 (mk 0 [1, 1, 0, 2592]) [32] [] ∧ ((sKeys.mbGo 0).slot 1 1).taken = true) := by
  unfold State.mbTakes; decide +kernel

theorem test_hyps_KeysAreReadOut_info :
    let x := sKeys.mbGo 1
    (sImp.mbTakes 0x0403 (mk 1 [2 ^ 54]) [8] [] ∧ hTenant (BitVec.ofNat 64 (2 ^ 54)) = 1 ∧ ((sImp.mbGo 1).slot 1 0).occ = true
      ∧ sKeys.mbTakes 0x0403 (mk 1 [2 ^ 54 + 2 ^ 52 + 1048575]) [8] [] ∧ hLoc (BitVec.ofNat 64 (2 ^ 54 + 2 ^ 52 + 1048575)) = 1
      ∧ hIndex (BitVec.ofNat 64 (2 ^ 54 + 2 ^ 52 + 1048575)) < 1048576
      ∧ sKeys.mbTakes 0x0403 (mk 1 [2 ^ 54 + 16]) [8] [] ∧ (x.fn 1).ten.slots ≤ hIndex (BitVec.ofNat 64 (2 ^ 54 + 16))
      ∧ sKeys.mbTakes 0x0403 (mk 1 [2 ^ 54 + 2 ^ 53]) [8] [] ∧ 2 ≤ hLoc (BitVec.ofNat 64 (2 ^ 54 + 2 ^ 53))
      ∧ sKeys.mbTakes 0x0403 (mk 1 [2 ^ 55 + 7]) [8] []) := by
  unfold State.mbTakes; decide +kernel

theorem test_hyps_KeysAreReadOut_refused :
    let x := sKeys.mbGo 1
    let h := 2 ^ 54 + 7
    (sKeys.mbTakes 0x0404 (mk 1 [h, 2 ^ 54 + 6, 0x40, 79]) [32] [] ∧ 79 < blobBytes 32
      ∧ sKeys.mbTakes 0x0404 (mk 1 [h, 2 ^ 54 + 7, 0x40, 80]) [32] [] ∧ (x.wrapBad 1 (BitVec.ofNat 64 (2 ^ 54 + 7))).isSome = true
      ∧ sKeys.mbTakes 0x0404 (mk 1 [2 ^ 54 + 9, 0, 0x40, 80]) [32] [] ∧ x.heldKey (BitVec.ofNat 64 (2 ^ 54 + 9)) = none
      ∧ sKeys.mbTakes 0x0404 (mk 1 [2 ^ 54 + 6, 0, 0x40, 80]) [32] []
      ∧ (x.heldKey (BitVec.ofNat 64 (2 ^ 54 + 6))).map (fun k => aExportable k.1) = some false
      ∧ sKeys.mbTakes 0x0404 (mk 1 [2 ^ 55 + 7, 0, 0x40, 80]) [32] [])
    ∧ (sKeys.mbTakes 0x0406 (mk 1 [h, 5, 6, 0x1000, 4850]) [40] [] ∧ 4850 < 4851
      ∧ sKeys.mbTakes 0x0406 (mk 1 [2 ^ 55 + 7, 5, 6, 0x1000, 4851]) [40] []
      ∧ sKeys.mbTakes 0x0406 (mk 0 [h, 5, 6, 0x1000, 4851]) [40] []) := by
  unfold State.mbTakes; decide +kernel

/-! Policies, the life cycle, firmware, regions and groups. -/

theorem test_hyps_PoliciesAreKept :
    let f := inRows sUp 0x0F
    let bar := { f with eng := { f.eng with legacy := 0x80000000 } }
    let stuck := sUp.setSrc 70 { state := 2 }
    let p : Nat → List Nat → Bool := fun code l => decide ((sUp.mbGo 0).mbCheck code (mk 0 l) [8 * l.length] [] = none)
    (sUp.mbReaches 0 = true ∧ (sUp.fn 0).mb.busy = false ∧ sUp.serves 0 = true)
    ∧ (sUp.mbTakes 0x0501 (mk 0 [0x8000001F]) [8] [0x8000001F] ∧ (sUp.mbGo 0).legacyBarred 0x8000001F = false)
    ∧ (bar.mbTakes 0x0501 (mk 0 [1]) [8] [0x8000001F] ∧ (bar.mbGo 0).legacyBarred 1 = true)
    ∧ ((inRows sUp 0x03).mbTakes 0x0502 (mk 0 [1, 2, 3, 4]) [32] [] ∧ (inRows sUp 0x03).mbTakes 0x0503 (mk 0 [1]) [8] [1])
    ∧ (p 0x0504 [1, 70, 5, 5] = true ∧ (sUp.mbGo 0).sourceOk 70 5 5 = true)
    ∧ p 0x0504 [2, 10, 1000000, 10] = true ∧ p 0x0504 [3, 60000] = true ∧ p 0x0504 [4, 255, 65535] = true
    ∧ (stuck.mbTakes 0x0504 (mk 0 [5, 70]) [16] [] ∧ ((stuck.mbGo 0).src 70).state = 2)
    ∧ p 0x0504 [5, 256] = true ∧ (p 0x0504 [5, 70] = true ∧ ((sUp.mbGo 0).src 70).state ≠ 2)
    ∧ (sUp.mbTakes 0x0505 (mk 0 [1, 29, 0x61000001]) [24] [allOnes, allOnes, 0xEF003FFF]
      ∧ (sUp.mbGo 0).groupOk 29 0x61000001 = true)
    ∧ p 0x0505 [2, 29] = true
    ∧ (sUp.mbTakes 0x0505 (mk 0 [3, 0x8700CE]) [16] [allOnes, 0x00FF00FF] ∧ tempsOk 0xCE 0x87 = true)
    ∧ sUp.mbTakes 0x0505 (mk 0 [4, 15]) [16] [allOnes, 0xF]
    ∧ p 0x0506 [1, 4] = true ∧ p 0x0506 [2, 1000000, 60000, 3600] = true ∧ p 0x0506 [3, 1] = true := by
  unfold State.mbTakes; decide +kernel

theorem test_hyps_LifeCycleCommands :
    let s := onLc { sUp with fns := [(0, pf)], qm := { qps := [(0, qp16)] } } (fun l => { l with nonce := 5 })
    let t := s.mbGo 0
    let a := onRnd s (fun r => { r with alarmed := true, alarm := 4 })
    let rec_ : Token := { tok1 5 with action := 3, toLc := 1, newIkh := 0 }
    (s.mbTakes 0x0601 (mk 0 [0x1000, 7540]) [16] [] ∧ t.readable 0 true = true ∧ t.tokenBad (tok1 5) t.lc.nonce = none
      ∧ (tok1 5).action = 1 ∧ t.tenantsQuiet = true ∧ t.mpBusy = false)
    ∧ (a.mbTakes 0x0602 (mk 0 []) [0, 16] [] ∧ a.rnd.hold = false ∧ a.rnd.alarm &&& a.presentNow = 0)
    ∧ (a.mbTakes 0x0602 (mk 0 [0x1000, 7540]) [0, 16] [] ∧ (a.mbGo 0).readable 0 true = true ∧ (a.mbGo 0).recoveryBad rec_ = none)
    ∧ sUp.mbTakes 0x0409 (mk 0 []) [0] [] ∧ sUp.mbTakes 0x0708 (mk 0 []) [0] []
    ∧ (s.mbTakes 0x0601 (mk 0 [0x1000, 7539]) [16] [] ∧ t.readable 0 false = false
      ∧ t.tokenBad { tok1 5 with len := 1 } t.lc.nonce = some (.badLength, .field) ∧ (sUp.mbGo 0).tenantsQuiet = false
      ∧ (onMp s (fun m => { m with rlBusy := true })).mbTakes 0x0601 (mk 0 [0x1000, 7540]) [16] []
      ∧ ((onMp s (fun m => { m with rlBusy := true })).mbGo 0).mpBusy = true
      ∧ ((onMp s (fun m => { m with rlBusy := true })).mbGo 0).tenantsQuiet = true)
    ∧ (let h := onRnd a (fun r => { r with hold := true })
      h.mbTakes 0x0602 (mk 0 []) [0, 16] [] ∧ h.rnd.hold = true
        ∧ (a.mbGo 0).recoveryBad { rec_ with len := 1 } = some (.badLength, .field)) := by
  unfold State.mbTakes
  refine ⟨⟨by decide +kernel, by decide +kernel, ?_, by decide +kernel⟩, by decide +kernel, ⟨by decide +kernel, by decide +kernel, ?_⟩,
    by decide +kernel, by decide +kernel, by decide +kernel, by decide +kernel⟩
  · simp [State.tokenBad, tok1, tokenSigner, onLc, sUp, State.reset, State.lcState, rowBit, State.mbGo, State.setMb, State.setFn]
  · simp [State.recoveryBad, onRnd, State.tokenSigsOk, State.tokenBad, tok1, tokenSigner, onLc, sUp, State.reset, State.lcState,
      rowBit, State.mbGo, State.setMb, State.setFn]

/-- An image of R342 that every check lets through in MAKER. -/
def goodImage : FwImage :=
  { len := 5279, format := 1, deviceRev := 0xB0, stateMask := 31, svn := 5, major := 3, minor := 0, patch := 0, familyMask := 3
    bundleVersion := 7, fwLen := 100, ucodeLen := 100, tableLen := 100, sigsOk := true, digestsOk := true, tableOk := true }

theorem test_hyps_FirmwareIsReplaced :
    let b := onMp sUp (fun m => { m with bankB := { valid := true, svn := 9, stateMask := 31, families := 3 } })
    let down := onMp sUp (fun m => { m with running := false, service := false, restart := some (1, false) })
    (sUp.mbTakes 0x0701 (mk 0 [0x1000, 5279]) [16] [] ∧ (sUp.mbGo 0).mpBusy = false ∧ sUp.mp.trial = false
      ∧ (sUp.mbGo 0).readable 0 true = true ∧ (sUp.mbGo 0).imageBad 5279 goodImage = none
      ∧ (sUp.mbGo 0).imageBad 5279 { goodImage with deviceRev := 0xB1 } = some (.versionMismatch, .none))
    ∧ (b.mbTakes 0x0702 (mk 0 []) [0] [] ∧ (b.mbGo 0).mpBusy = false ∧ (b.mbGo 0).idleBank.valid = true)
    ∧ sUp.mbTakes 0x0703 (mk 0 [1]) [8] [1] ∧ sUp.mbTakes 0x0704 (mk 0 []) [0] []
    ∧ (sUp.up = true ∧ sUp.mp.running = true)
    ∧ (down.up = true ∧ down.mp.restart = some (1, false) ∧ (false && down.mp.trial) = false
      ∧ down.bankPasses down.activeBank true = true)
    ∧ ((sUp.mbGo 0).readable 0 false = false ∧ (sUp.mbGo 0).idleBank.valid = false ∧ sUp.mbTakes 0x0702 (mk 0 []) [0] []
      ∧ (onMp sUp (fun m => { m with rlBusy := true })).mbTakes 0x0702 (mk 0 []) [0] []
      ∧ (onMp sUp (fun m => { m with rlBusy := true })).mbTakes 0x0701 (mk 0 [0, 5279]) [16] []
      ∧ ((onMp sUp (fun m => { m with rlBusy := true })).mbGo 0).mpBusy = true
      ∧ (onMp sUp (fun m => { m with trial := true })).mbTakes 0x0701 (mk 0 [0, 5279]) [16] [] ∧ sMain.up = false)
    ∧ (let t := onMp b (fun m => { m with running := false, service := false, trial := true, restart := some (3, true) })
      sUp.mp.restart = none ∧ (t.up = true ∧ t.mp.restart = some (3, true) ∧ t.mp.trial = true)
        ∧ down.bankPasses down.idleBank true = false ∧ down.bankPasses down.activeBank false = false
        ∧ (onMp b (fun m => { m with running := false, service := false, restart := some (1, false) })).bankPasses b.idleBank true
          = true) := by
  unfold State.mbTakes; decide +kernel


/-- A device that copies an image; the checks of R343 pass for one image and fail for another. -/
theorem test_hyps_FirmwareIsReplaced_staging :
    (let r := mk 0 [0x1000, 5279]
     let s := onMp sUp (fun m => { m with staging := true, stage := some (r, goodImage) })
     s.mp.stage = some (r, goodImage) ∧ { s with mp := { s.mp with staging := false, stage := none } }.imageBad (r.w 1) goodImage = none
       ∧ sUp.imageBad (r.w 1) { goodImage with deviceRev := 0xB1 } = some (.versionMismatch, .none)
       ∧ sUp.mp.stage = none ∧ sUp.mp.serving = true ∧ sMain.mp.serving = false)
    ∧ (onMp sUp (fun m => { m with staging := true, stage := some (mk 0 [0x1000, 5279], goodImage) })).stageEnd.mp.bankB.valid = true := by
  decide +kernel

theorem test_hyps_RegionsByCommand :
    let r := mk 0 [3, 0, 10000, 0]
    let last := onOrc sUp (fun o => { o with regions := [{}, {}, {}, { inService := true }] })
    let busy := onMp sUp (fun m => { m with rlBusy := true, rlReq := some (0, 0x0705, 0) })
    (sUp.mbTakes 0x0705 r [32] [allOnes, 1] ∧ reloadRange r = true ∧ (sUp.mbGo 0).familyOf 0 = some 0 ∧ sUp.mp.rlBusy = false
      ∧ (sUp.region 3).inService = true ∧ (sUp.mbGo 0).othersServe 3 = true)
    ∧ (last.mbTakes 0x0705 r [32] [allOnes, 1] ∧ last.mp.rlBusy = false ∧ (last.region 3).inService = true
      ∧ (last.mbGo 0).othersServe 3 = false)
    ∧ (busy.mbTakes 0x0705 r [32] [allOnes, 1] ∧ busy.mp.rlBusy = true ∧ busy.mp.rlReq ≠ none)
    ∧ sUp.mbTakes 0x0706 r [32] [allOnes, 0, allOnes, 0]
    ∧ (sUp.mbTakes 0x0707 (mk 0 [1, 127, 1]) [24] [allOnes, allOnes, 1] ∧ classOf 1 = some .pip ∧ 127 < classCount .pip
      ∧ classOf 4 = some .dig ∧ classCount .dig = 16 ∧ (sUp.mbGo 0).lastUnit .pip 0 = false)
    ∧ (let one := { last with eng := { last.eng with cells := [(256 + 96, { inService := true })] } }
      one.mbTakes 0x0707 (mk 0 [1, 96, 0]) [24] [allOnes, allOnes, 1] ∧ (one.mbGo 0).lastUnit .pip 96 = true) := by
  unfold State.mbTakes; decide +kernel

theorem test_hyps_RegionsByCommand_refused :
    let r := mk 0 [3, 0, 10000, 0]
    let busy := onMp sUp (fun m => { m with rlBusy := true, rlReq := some (0, 0x0705, 0) })
    (onMp busy (fun m => { m with rlReq := none, rlRegion := 3 })).mbTakes 0x0705 r [32] [allOnes, 1]
    ∧ (sUp.mbTakes 0x0705 (mk 0 [4, 0, 0, 0]) [32] [allOnes, 1] ∧ reloadRange (mk 0 [4, 0, 0, 0]) = false
      ∧ sUp.mbTakes 0x0705 (mk 0 [3, 0, 10000, 77]) [32] [allOnes, 1] ∧ reloadRange (mk 0 [3, 0, 10000, 77]) = true
      ∧ (sUp.mbGo 0).familyOf 77 = none ∧ sUp.mbTakes 0x0705 (mk 0 [3, 1, 10000, 0]) [32] [allOnes, 1])
    ∧ (sUp.mbTakes 0x0707 (mk 0 [1, 127, 0]) [24] [allOnes, allOnes, 1] ∧ (sUp.mbGo 0).lastUnit .pip 127 = false
      ∧ sUp.mbTakes 0x0707 (mk 0 [200, 0, 0]) [24] [allOnes, allOnes, 1] ∧ classOf 200 = none
      ∧ sUp.mbTakes 0x0707 (mk 0 [1, 128, 0]) [24] [allOnes, allOnes, 1] ∧ classCount .pip ≤ 128) := by
  unfold State.mbTakes; decide +kernel

/-- A member of a group with index 0, and a peer at index 63 with a path (R446, R450). -/
def sGrp : State :=
  onGrp (inRows sUp 0x03) (fun g => { g with member := true, gk := true, quorum := 1, mirrorTo := 10, groupId := 0xABC
                                             peers := [(63, { member := true, deviceId := 77, addr := 0x9000, inService := true,
                                                              last := 100 })] })

theorem test_hyps_GroupsAreConfigured :
    let i := inRows sUp 0x03
    let open_ := onGrp i (fun g => { g with joinOpen := true })
    let p : State → List Nat → Bool := fun s l => decide ((s.mbGo 0).mbCheck 0x0801 (mk 0 l) [8 * l.length] [] = none)
      && s.mbReaches 0 && !(s.fn 0).mb.busy && s.serves 0
    (p i [1, 1, 64, 1000] = true ∧ i.grp.member = false ∧ (i.mbGo 0).commits = true) ∧ p i [2, 0, 0xFFFFFFFF] = true
    ∧ (p sGrp [3, 0, 0, 5, 0] = true ∧ sGrp.grp.member = true ∧ (sGrp.mbGo 0).readable 0 true = true)
    ∧ (p open_ [4, 0, 0] = true ∧ open_.grp.joinOpen = true)
    ∧ (p sGrp [5, 63, 0x9000] = true ∧ 63 ≠ sGrp.grp.index)
    ∧ (p sGrp [6, 1, 1] = true ∧ ((sGrp.mbGo 0).fn 1).ten.st ≠ .notCreated)
    ∧ (p sGrp [7, 0] = true ∧ (mk 0 [7, 0]).w 1 = sGrp.grp.index ∧ p sGrp [7, 63] = true ∧ (sGrp.peer 63).member = true)
    ∧ p sGrp [8, 63] = true ∧ (p sGrp [9, 0x1000, 4096] = true ∧ p sGrp [9, 0x1000, 16] = true)
    ∧ (p i [10, 65535] = true ∧ i.lcState = 2)
    ∧ (p sGrp [1, 1, 64, 1000] = true ∧ p i [1, 0, 64, 1000] = true ∧ p sGrp [2, 0, 0] = true ∧ (sGrp.mbGo 0).readable 0 false = false
      ∧ p sGrp [4, 0, 0] = true ∧ p i [4, 0, 0] = true ∧ i.grp.joinOpen = false ∧ (open_.mbGo 0).readable 0 false = false
      ∧ open_.grp.member = false ∧ (open_.mbGo 0).commits = true)
    ∧ (p i [5, 63, 0] = true ∧ p sGrp [5, 0, 0] = true ∧ p i [6, 1, 1] = true ∧ p sGrp [6, 9, 0] = true
      ∧ ((sGrp.mbGo 0).fn 9).ten.st = .notCreated ∧ p i [7, 1] = true ∧ p sGrp [7, 1] = true ∧ (sGrp.peer 1).member = false)
    ∧ (p i [8, 1] = true ∧ p sGrp [8, 0] = true ∧ p sGrp [9, 0, 8] = true ∧ p (inRows sUp 0x0F) [10, 1] = true ∧ (inRows sUp 0x0F).lcState ≠ 2
      ∧ p i [10, 65536] = true) := by decide +kernel

/-- A device ID that is neither this device's nor a member's is admitted at a free index. -/
theorem test_hyps_GroupsAreConfigured_admit :
    ((onGrp (inRows sUp 0x03) (fun g => { g with member := true })).mbGo 0).admits 63 (Config.deviceId + 1) = true := by
  simp [State.admits, onGrp, inRows, onLc, sUp, State.reset, State.mbGo, State.setMb, State.setFn, State.peer, Tab.get]

theorem test_hyps_AlarmedBar4 :
    let s := onRnd sUp (fun r => { r with alarmed := true })
    (s.reaches 0 = true ∧ (s.fn 0).port.mse = true ∧ s.rnd.alarmed = true ∧ s.scrapped = false)
    ∧ (accessOk 0x10000 4 = true ∧ 0x10000 / 0x10000 ∉ [0, 8, 9, 10])
    ∧ (accessOk 0xAFFFC 4 = true ∧ 0xAFFFC / 0x10000 ∈ [0, 8, 9, 10] ∧ accessOk 0xFFF8 8 = true) := by decide +kernel

theorem test_hyps_RegistersAnswer :
    let quiet := sUp.setPort 1 { vf.port with mse := false }
    let rng := sUp.setFn 1 { vf with rngw := { buf := [1, 2, 3, 4, 5, 6, 7, 8] } }
    (quiet.reaches 1 = true ∧ (quiet.fn 1).port.mse = false) ∧ ((sUp.fn 1).port.mse = true ∧ accessOk 2 4 = false)
    ∧ (accessOk 0x2000 8 = true ∧ accessOk 0x2004 4 = true ∧ 8 ≤ (rng.fn 1).rngw.buf.length ∧ (sUp.fn 1).rngw.buf.length < 4)
    ∧ (sUp.reaches 0 = true ∧ (sUp.fn 0).port.mse = true ∧ sUp.answers 0x20000 = true)
    ∧ (inBar 1 2 0xFFFF = true ∧ inBar 1 2 0x10000 = false ∧ inBar 0 4 0xFFFFF = true ∧ inBar 1 4 0 = false ∧ inBar 0 1 0 = false)
    ∧ (accessOk 0x2000 2 = false ∧ sUp.cfgReaches 1 = true ∧ (sUp.fn 1).ten.msix ≤ 2048)
    ∧ (let v := onHif sUp (fun h => { h with vfSetAt := some 100 }); v.reaches 1 = true ∧ v.cfgReaches 1 = false) := by decide +kernel

theorem test_hyps_RegistersAreWritten :
    (sUp.reaches 1 = true ∧ (sUp.fn 1).port.mse = true ∧ sUp.scrapped = false ∧ sUp.rnd.alarmed = false)
    ∧ ((0x80000008 : Word).getLsbD 31 = true ∧ 8 ≤ (0x80000008 : Word).toNat % 32 ∧ (0x80000015 : Word).getLsbD 31 = true
      ∧ 20 < (0x80000015 : Word).toNat % 32 ∧ (7 : Word).getLsbD 31 = false)
    ∧ (inBar 1 0 8 = true ∧ sUp.cfgReaches 1 = true)
    ∧ (let v := onHif sUp (fun h => { h with vfSetAt := some 100 })
      v.reaches 1 = true ∧ (v.fn 1).port.mse = true ∧ v.scrapped = false ∧ v.cfgReaches 1 = false) := by decide +kernel

theorem test_hyps_Loopbacks :
    let s := { sUp with fns := [(0, { pf with port := { pf.port with ready := false } })] }
    let four := onHif s (fun h => { h with lpbkDepth := 4 })
    let hbm := { s with hbm := { s.hbm with lpbkDepth := 3 } }
    (s.bar4Writes = true ∧ s.noneReady = true) ∧ (sUp.bar4Writes = true ∧ sUp.noneReady = false)
    ∧ (four.bar4Writes = true ∧ four.hif.lpbkDepth = 4 ∧ (four.fn 0).port.bme = true)
    ∧ (s.hbm.lpbkDepth = 0 ∧ (0 : BitVec 6) = s.hbm.lpbkPc ∧ hbm.bar4Writes = true ∧ hbm.hbm.lpbkDepth ≠ 0) := by decide +kernel

theorem test_hyps_RegionsLeaveAndReturn :
    let dr := onOrc sUp (fun o => { o with regions := [{ inService := true, draining := true }, { inService := true }, {}, {}] })
    let rl := onMp dr (fun m => { m with rlBusy := true, rlRegion := 0, rlStep := 1, rlLimit := 100, rlStart := 0 })
    let back := onMp { sUp with eng := {} } (fun m => { m with rlBusy := true, rlRegion := 0, rlStep := 2 })
    (sUp.tablesWf ∧ dr.tablesWf ∧ rl.tablesWf ∧ back.tablesWf)
    ∧ (sUp.up = true ∧ (sUp.region 0).inService = true ∧ sUp.reloads 0 = false ∧ dr.reloads 2 = false
      ∧ (dr.region 2).inService = false)
    ∧ (dr.drainDone 0 = true ∧ dr.reloads 0 = false ∧ dr.drainDone 1 = false)
    ∧ (rl.drainDone 0 = true ∧ rl.reloads 0 = true ∧ rl.mp.rlStep = 1 ∧ rl.mp.rlReset = false ∧ (rl.region 0).draining = true
      ∧ rl.now < rl.mp.rlStart + 1000 * rl.mp.rlLimit)
    ∧ (let x := onMp rl (fun m => { m with rlReset := true })
      x.mp.rlReset = true ∧ x.drainDone 0 = true ∧ x.rindHolds 0 = false ∧ x.sourceHolds 0 = false ∧ x.regionDead 0 = false)
    ∧ (let x := back.setCell .pip 0 { inService := true }
      x.mp.running = true ∧ x.reloads 0 = true ∧ x.mp.rlReset = false ∧ x.mp.rlStep = 2 ∧ x.mp.rlBack = false
        ∧ x.enginesOut 0 = false ∧ (x.region 0).quarantine = false ∧ x.sourceHolds 0 = false) := by
  unfold State.tablesWf; decide +kernel

theorem test_hyps_RegionsLeaveAndReturn_reload :
    let dr := onOrc sUp (fun o => { o with regions := [{ inService := true, draining := true }, { inService := true }, {}, {}] })
    let rl := onMp dr (fun m => { m with rlBusy := true, rlRegion := 0, rlStep := 1, rlLimit := 100, rlStart := 0 })
    let back := onMp { sUp with eng := {} } (fun m => { m with rlBusy := true, rlRegion := 0, rlStep := 2 })
    let x := onOrc rl (fun o => { o with tick := 100000 })
    (x.tablesWf ∧ (x.region 0).draining = true ∧ x.reloads 0 = true ∧ x.mp.rlStep = 1 ∧ x.mp.rlStart + 1000 * x.mp.rlLimit ≤ x.now)
    ∧ (let q := onOrc rl (fun o => { o with regions := [{ inService := true, draining := true, quarantine := true }, { inService := true }, {}, {}] })
      q.tablesWf ∧ q.drainDone 0 = true ∧ q.reloads 0 = true ∧ q.mp.rlStep = 1 ∧ q.mp.rlReset = false
        ∧ (q.region 0).quarantine = true ∧ (rl.region 0).quarantine = false ∧ rl.sourceHolds 0 = false)
    ∧ (back.up = true ∧ (back.reloads 0 && decide (2 ≤ back.mp.rlStep)) = true ∧ State.reset.up = false)
    ∧ ((back.setCluster 0 { back.cluster 0 with loading := true }).reloadAt 0 2 = true
      ∧ ((back.setCluster 0 { back.cluster 0 with loading := true }).cluster 0).loading = true
      ∧ back.reloadAt 0 2 = true ∧ (back.cluster 0).loading = false ∧ sUp.reloadAt 0 2 = false ∧ sUp.reloadAt 0 3 = false
      ∧ (onMp back (fun m => { m with rlStep := 3 })).reloadAt 0 3 = true)
    ∧ (let z := onMp (back.setCluster 0 { back.cluster 0 with altValid := true }) (fun m => { m with rlBack := true })
      z.mp.rlBack = true ∧ (z.cluster 0).altValid = true) := by
  unfold State.tablesWf; decide +kernel

theorem test_hyps_ControlStoreCodeCorrects : (0 : Nat) < 63 ∧ 63 < 64 ∧ 7 < 8 ∧ 6 < 7 := by decide

theorem test_hyps_PatrolsCountErrors :
    let bad := ((sUp.cluster 19).upset [(5, 3)]).filter (fun e => (flipOuts true e.2).contains .bad)
    sUp.up = true ∧ sUp.mp.katDone = true ∧ (sUp.hbm.trained = true ∧ sUp.pwr.state < 2 ∧ sUp.hbm.lpbkDepth = 0)
    ∧ ((sUp.cluster 0).upset [(7, 1)]).filter (fun e => (flipOuts false e.2).contains .bad) = []
    ∧ (((sUp.cluster 0).upset [(7, 1)]).flatMap (fun e => flipOuts false e.2)).filter (· == .corrected) ≠ []
    ∧ (bad.head?.map (·.1) = some 5 ∧ bad.tail = [])
    ∧ State.reset.up = false ∧ (onMp sUp (fun m => { m with katDone := false })).mp.katDone = false := by decide +kernel

theorem test_hyps_GeneratorsAndWindows :
    let at_ := fun (n : Nat) => onOrc sUp (fun o => { o with tick := n })
    let demand := onRng (at_ 1100) (fun r => { r with demand := true })
    let quiet := { sUp with fns := [(0, { pf with port := { pf.port with ready := false } })] }
    (sUp.up = true ∧ (sUp.gen (genOf false 0)).seeded = true ∧ (sUp.gen 0).last = 100 ∧ (at_ 1099).now < 100 + 1000
      ∧ 100 + 1000 ≤ (at_ 1100).now ∧ (at_ 1100).drbgServes = true ∧ demand.drbgServes = false
      ∧ (at_ 10099).now < 100 + 10000 ∧ (sUp.gen 0).pastLimit = false ∧ 100 + 10000 ≤ (at_ 10100).now)
    ∧ State.reset.up = false ∧ (sUp.rngFills 1 = true ∧ sUp.rng.demand = false ∧ (sUp.fn 1).rngw.buf.length ≤ 32
      ∧ 32 < (List.replicate 33 (0 : Byte)).length)
    ∧ (quiet.bar4Full = true ∧ (1 : Word).getLsbD 0 = true ∧ quiet.lcState ∈ [1, 2, 4] ∧ quiet.noneReady = true
      ∧ sUp.noneReady = false ∧ (inRows quiet 0x0F).lcState = 3)
    ∧ (onRng quiet (fun r => { r with rawEn := true })).rng.rawEn = true := by decide +kernel

theorem test_hyps_EntropyIsTestedAndReseeded :
    let bad := onRng sUp (fun r => { r with drbgFailed := true })
    let start := onRng sUp (fun r => { r with srcs := [{ startup := true, runs := 7 }, { ok := true }, { ok := true }] })
    let at_ := fun (n : Nat) => onOrc sUp (fun o => { o with tick := n })
    (sUp.rngRuns = true ∧ (sUp.rng.srcs.getD 2 {}).canFail 1 = true ∧ (start.rng.srcs.getD 0 {}).canFail 2 = true
      ∧ (start.rng.srcs.getD 0 {}).startup = true ∧ start.rngRuns = true)
    ∧ (sUp.rng.srcs.all (·.ok) = true ∧ sUp.rng.rawEn = false ∧ sUp.rng.demand = false ∧ sUp.rng.pool < 4)
    ∧ (sUp.drbgLive = true ∧ 0 < sUp.rng.pool ∧ sUp.bar4Full = true ∧ sUp.rng.last + 100 ≤ (at_ 100).now
      ∧ (at_ 99).now < sUp.rng.last + 100 ∧ (onRng sUp (fun r => { r with pool := 0 })).drbgLive = true)
    ∧ (bad.rngRuns = true ∧ bad.rng.drbgFailed = true ∧ bad.rng.ready = true ∧ 0 < bad.rng.pool ∧ bad.rng.srcs.all (·.ok) = true
      ∧ bad.rng.rawEn = false ∧ bad.drbgLive = false)
    ∧ (let new := onRng sUp (fun r => { r with ready := false })
      new.rngRuns = true ∧ new.rng.srcs.all (·.ok) = true ∧ 0 < new.rng.pool ∧ new.rng.rawEn = false ∧ new.rng.ready = false)
    ∧ (State.reset.rngRuns = false ∧ (sUp.rng.srcs.getD 0 {}).startup = false
      ∧ (onRng sUp (fun r => { r with pool := 4 })).rng.pool = 4 ∧ sUp.rng.drbgFailed = false ∧ sUp.bar4Writes = true
      ∧ (0 : Word).getLsbD 0 = false) := by decide +kernel

/-! Rind, faults, power, group frames, the sideband and the TAP. -/

theorem test_hyps_TampAlert :
    let s := onRnd sUp (fun r => { r with alarm := 0x20000000, cfg := [(29, 0x21000001)] })
    s.rnd.alarm.getLsbD 29 = true ∧ s.nv.fuses.getLsbD 29 = false ∧ s.grpAction 29 = 1
      ∧ exec .standbySupplyLoss sUp = .next { sUp with
          pwr := { sUp.pwr with standby := false }, rnd := { sUp.rnd with supply := 0 } } :=
  ⟨by decide +kernel, by decide +kernel, by decide +kernel, rfl⟩

theorem test_hyps_RindAnswersTampering :
    let k2 := onRnd sUp (fun r => { r with cfg := [(0, 0x42000064)] })
    let off := { (onRnd sUp (fun r => { r with supply := 1 })) with pwr := { State.reset.pwr with main := false } }
    let full := onRnd off (fun r => { r with latch := List.replicate 16 ⟨1, 1, 1, 1, 1⟩ })
    let log0 := onRnd sUp (fun r => { r with cfg := [(0, 0x01000001)] })
    let there := onRnd sUp (fun r => { r with present := 1, alarm := 1 })
    let counts := onRnd sUp (fun r => { r with events := [(0, [1000])] })
    (groupCells 12 ≤ (1 : Fin 8).val ∧ (7 : Fin 8).val < groupCells 11)
    ∧ (({ sUp with nv := { sUp.nv with fuses := 1 } }).groupOn 0 = false ∧ sUp.groupOn 0 = true
      ∧ (sUp.addEvent 0 0).atK 0 = true ∧ k2.groupOn 0 = true ∧ (k2.addEvent 0 0).atK 0 = false)
    ∧ (sUp.stimOn 29 = true ∧ sUp.bar4Writes = true ∧ off.stimOn 29 = false)
    ∧ (off.rnd.supply ≠ 0 ∧ off.rnd.latch.length < 16 ∧ 16 ≤ full.rnd.latch.length ∧ full.rnd.supply ≠ 0)
    ∧ (log0.up = true ∧ log0.rnd.supply = 0 ∧ log0.grpAction 0 = 0) ∧ sUp.rnd.level < 3
    ∧ (there.pwr.vaon = true ∧ there.rnd.present.getLsbD 0 = true ∧ there.atK 0 = false) ∧ counts.atK 0 = true := by
  decide +kernel

theorem test_hyps_FaultsAreHandled :
    let at_ := fun (x : SrcRec) => sUp.setSrc 70 x
    let g := at_ { state := 1, present := true, grace := 1, graceAt := 100 }
    let q := onOrc (at_ { state := 1, quietAt := 100 }) (fun o => { o with tick := 1000100 })
    let many := onOrc (at_ { state := 1, quietAt := 100, exits := [1000000, 1000000, 1000000] }) (fun o => { o with tick := 1000100 })
    (srcReserved 63 = true ∧ State.reset.up = false)
    ∧ (srcReserved 2 = false ∧ srcReserved 24 = false ∧ srcReserved 26 = false ∧ srcReserved 28 = false ∧ srcReserved 70 = false)
    ∧ (sUp.up = true ∧ sUp.scrapped = false ∧ srcReserved 39 = false ∧ sUp.flt.cfgLoaded = true ∧ 39 < 64
      ∧ 39 ∉ [2, 24, 25, 26, 28])
    ∧ (g.up = true ∧ (g.src 70).grace ≠ 0 ∧ (g.src 70).graceAt ≤ g.now ∧ (g.src 70).acked = false)
    ∧ ((at_ { grace := 1, graceAt := 101 }).now < ((at_ { grace := 1, graceAt := 101 }).src 70).graceAt
      ∧ (sUp.src 70).grace = 0 ∧ ((at_ { acked := true }).src 70).acked = true)
    ∧ (sUp.bar4Writes = true ∧ srcReserved 252 = false)
    ∧ (q.up = true ∧ (q.src 70).state = 1 ∧ (q.src 70).present = false ∧ (q.src 70).quietAt + 1000 * q.flt.quiet ≤ q.now
      ∧ (q.recentExits 70).length < q.flt.recCount)
    ∧ ((many.src 70).state = 1 ∧ many.flt.recCount ≤ (many.recentExits 70).length) := by decide +kernel

theorem test_hyps_PowerFollowsItsRules :
    let at_ := fun (n st deep : Nat) => onOrc (onPwr { sUp with qm := {} } (fun p => { p with state := st, deepest := deep }))
      (fun o => { o with tick := n })
    let th := fun (n : Nat) => onOrc sUp (fun o => { o with regions := [{ inService := true, thermal := n }, {}, {}, {}] })
    (sUp.tablesWf ∧ (at_ 100 0 2).tablesWf ∧ (th 2).tablesWf ∧ sUp.up = true)
    ∧ ((at_ 100 0 2).target = 2 ∧ (at_ 100 0 2).idle = true ∧ (at_ 100 0 2).pwr.exiting = false ∧ (at_ 100 0 2).scrapped = false
      ∧ (at_ 100 0 2).pwr.idleSince + (at_ 100 0 2).pwr.idleTime 2 ≤ 100)
    ∧ (3 ≤ (at_ 10000 2 3).target ∧ (at_ 10000 2 3).idle = true ∧ (at_ 10000 2 3).pwr.idleTime 3 ≤ 10000)
    ∧ ((at_ 60000000 3 4).target = 4 ∧ (at_ 60000000 3 4).idle = true ∧ (at_ 60000000 3 4).pwr.idleTime 4 ≤ 60000000)
    ∧ ((at_ 0 0 1).target < 2 ∧ (withItem (anItem pipStep)).idle = false)
    ∧ ((at_ 0 2 3).pwr.state = 2 ∧ (at_ 0 2 3).wakes .regionOp = true ∧ (at_ 0 2 3).wakes .doorbell = false)
    ∧ ((at_ 0 4 4).pwr.state = 4 ∧ (at_ 0 4 4).pwr.exiting = false)
    ∧ (let x := onPwr (at_ 0 3 3) (fun p => { p with exiting := true })
      x.up = true ∧ x.pwr.exiting = true ∧ x.pwr.state = 3 ∧ x.drbgServes = true ∧ (x.gen 0).seeded = true
        ∧ (onRng x (fun r => { r with drbgFailed := true })).drbgServes = false ∧ sUp.pwr.exiting = false)
    ∧ (onPwr sUp (fun p => { p with state := 4 })).sensing = false ∧ sUp.tol = sUp.pwr.lastTol
    ∧ (sUp.sensing = true ∧ 100 ≤ hotter 100 20 ∧ hotter 20 98 ≤ 98 ∧ hotter 99 20 < 100 ∧ 98 < hotter 99 20
      ∧ sUp.throttled = false ∧ 1 ≤ ((th 3).region 0).thermal ∧ ((th 3).region 0).thermal < 4 ∧ (th 3).sensing = true
      ∧ 2 ≤ ((th 2).region 0).thermal ∧ (th 2).sensing = true)
    ∧ ((sUp.src 35).present = false ∧ sUp.pwr.avs < 800 ∧ (onPwr sUp (fun p => { p with avs := 800 })).sensing = true
      ∧ sUp.pwr.avsLimit = false)
    ∧ (sUp.pwr.rootLock = true ∧ sUp.pwr.hbm0Lock = true ∧ sUp.pwr.hbm1Lock = true) := by
  unfold State.tablesWf; decide +kernel

/-- A frame from peer 63 to index 0 with the next number (R451). -/
def aFrame (typ : Nat) : Frame :=
  { typ := typ, sender := 63, receiver := 0, groupId := 0xABC, fseq := 1, mark := 1, mseq := 3 }
/-- The group with tenant 1 mirrored, and slot 5 of it at counter 4 (R453). -/
def sMir : State :=
  (sGrp.setTen 1 { vf.ten with mirrored := true }).setSlot 1 5 { occ := true, counter := 4, hash := 9, len := 16 }
def slotRec (n : Nat) (c h : Nat) : SlotRec :=
  { tenant := 1, slot := n, counter := BitVec.ofNat 64 c, hash := BitVec.ofNat 128 h, keyLen := 16 }

theorem test_hyps_FramesAreTaken :
    let w : Wait := ⟨1, 0x401, 7, 3, 0, 100, true, true, 1, 5⟩
    let wait := onGrp sMir (fun g => { g with pending := [w] })
    let rs := onGrp sMir (fun g => { g with resyncing := some 63 })
    (sMir.up = true ∧ sMir.grp.member = true ∧ sMir.frameOk { aFrame 1 with mark := 2 } = false
      ∧ sMir.frameOk (aFrame 1) = true ∧ (sMir.peer 63).inService = true ∧ (aFrame 1).fragIdx + 1 = (aFrame 1).fragCnt)
    ∧ (sMir.windowOpen = true ∧ sUp.windowOpen = false ∧ sMir.hears (aFrame 1) = true ∧ (aFrame 1).typ = 1
      ∧ ({ aFrame 1 with fragCnt := 2 } : Frame).fragIdx + 1 ≠ 2)
    ∧ (let out := sMir.setPeer 63 { sMir.peer 63 with inService := false, rx := 4 }
      out.windowOpen = true ∧ out.frameOk { aFrame 3 with fseq := 5, mark := 5 } = true ∧ out.hears { aFrame 3 with fseq := 5, mark := 5 } = false)
    ∧ (let new := sMir.setPeer 63 { sMir.peer 63 with inService := false }
      (new.peer 63).inService = false ∧ (new.peer 63).rx = 0 ∧ new.hears (aFrame 3) = true)
    ∧ (sMir.mirrors 2 = false ∧ sMir.mirrors 1 = true ∧ (sMir.fn 1).ten.slots ≤ 16 ∧ 15 < (sMir.fn 1).ten.slots)
    ∧ ((slotRec 5 5 9).counter.toNat = (sMir.slot 1 5).counter.toNat + 1 ∧ sMir.commits = true
      ∧ sMir.heapFits (max (sMir.slot 1 5).len 16) = true)
    ∧ ((slotRec 5 4 9).counter = (sMir.slot 1 5).counter ∧ (slotRec 5 4 9).hash = (sMir.slot 1 5).hash)
    ∧ ((sMir.slot 1 5).counter.toNat + 1 < (slotRec 5 6 9).counter.toNat ∧ sMir.grp.resyncing = none)
    ∧ ((slotRec 5 4 8).counter.toNat ≤ (sMir.slot 1 5).counter.toNat ∧ (slotRec 5 4 8).hash ≠ (sMir.slot 1 5).hash)
    ∧ (sMir.grp.pending.find? (fun x => x.mseq == (aFrame 2).mseq) = none
      ∧ wait.grp.pending.find? (fun x => x.mseq == (aFrame 2).mseq) = some w ∧ wait.grp.quorum ≤ w.acks + 1
      ∧ (onGrp wait (fun g => { g with quorum := 3 })).frameOk (aFrame 2) = true)
    ∧ (sMir.grp.resyncing ≠ some 63 ∧ rs.grp.resyncing = some 63 ∧ rs.frameOk (aFrame 5) = true ∧ rs.slotFits (slotRec 5 9 9) = true
      ∧ rs.slotFits (slotRec 16 9 9) = false
      ∧ (rs.takeSlots [slotRec 5 9 9]).grp.resyncing = some 63 ∧ (rs.takeSlots [slotRec 16 9 9]).grp.resyncing = none) := by decide +kernel

theorem test_hyps_FramesAreSent :
    let q := sGrp.setPeer 63 { sGrp.peer 63 with outq := [(3, 0, 0, 0, 0)] }
    let late := fun (n : Nat) => onOrc sGrp (fun o => { o with tick := n })
    let w : Wait := ⟨1, 0x401, 7, 3, 0, 100, true, true, 1, 5⟩
    let wait := fun (n : Nat) => onGrp (late n) (fun g => { g with pending := [w] })
    (sGrp.maySend = true ∧ (sGrp.peer 63).member = true ∧ 63 ≠ sGrp.grp.index ∧ (sGrp.peer 63).addr ≠ 0
      ∧ sGrp.consumed 63 = (sGrp.peer 63).tx ∧ (sGrp.peer 63).outq = [])
    ∧ (q.maySend = true ∧ q.isMember 63 = true ∧ q.hasPath 63 = true ∧ (q.peer 63).addr ≠ 0 ∧ (q.peer 63).outq = [(3, 0, 0, 0, 0)] ∧ q.consumed 63 = (q.peer 63).tx)
    ∧ (let b := sGrp.setPeer 63 { sGrp.peer 63 with tx := 1 }; b.consumed 63 ≠ (b.peer 63).tx) ∧ sUp.maySend = false
    ∧ (sGrp.grp.beatAt + 1000 ≤ (late 1000).now ∧ (late 1000).maySend = true ∧ (late 999).now < sGrp.grp.beatAt + 1000)
    ∧ ((late 10100).up = true ∧ (late 10100).grp.member = true ∧ (sGrp.peer 63).inService = true
      ∧ (sGrp.peer 63).last + 10000 ≤ (late 10100).now ∧ (late 10099).now < (sGrp.peer 63).last + 10000)
    ∧ ((wait 10100).up = true ∧ (wait 10100).grp.pending = [w] ∧ w.fn = 1 ∧ w.open_ = true
      ∧ w.since + 1000 * (wait 10100).grp.mirrorTo ≤ (wait 10100).now
      ∧ (wait 10099).now < w.since + 1000 * (wait 10099).grp.mirrorTo) := by decide +kernel

theorem test_hyps_FramesAreSent_relay :
    let q := sGrp.setPeer 63 { sGrp.peer 63 with outq := [(3, 0, 0, 0, 0)] }
    let z := onGrp (q.setPeer 63 { q.peer 63 with addr := 0, outq := [(5, 0, 0, 0, 1)] }) (fun g => { g with ringLen := 16 })
    (z.maySend = true ∧ z.hasPath 63 = true ∧ (z.peer 63).addr = 0 ∧ (z.peer 63).outq = [(5, 0, 0, 0, 1)]
        ∧ z.consumed 63 = (z.peer 63).tx) := by
  decide +kernel

theorem test_hyps_ProvisionedId :
    let i := inRows sUp 0x03
    let set_ := { sUp with nv := { sUp.nv with sbInstanceSet := true } }
    (sUp.nv.sbInstanceSet = false ∧ set_.nv.sbInstanceSet = true)
    ∧ (i.mbTakes 0x0801 (mk 0 [10, 65535]) [16] [] ∧ (mk 0 [10, 65535]).w 0 = 10 ∧ i.lcState = 2 ∧ (mk 0 [10, 65535]).w 1 < 65536)
    ∧ (({ sUp with sb := { daValid := true } }).onBus = true ∧ ({ sUp with sb := { daValid := true } }).sb.daValid = true) := by
  unfold State.mbTakes; decide +kernel

theorem test_hyps_SidebandAnswers :
    let s := { sUp with sb := { daValid := true, eidValid := true, eid := 9 } }
    let stop := onMp s (fun m => { m with service := false })
    (sUp.onBus = true ∧ sUp.sb.daValid = false ∧ s.onBus = true ∧ s.sb.daValid = true ∧ ({ sUp with sb := { lpbkDepth := 1 } }).onBus = false)
    ∧ (69 ≤ (69 : BitVec 16).toNat ∧ (256 : BitVec 16).toNat ≤ 256 ∧ (68 : BitVec 16).toNat < 69 ∧ 256 < (257 : BitVec 16).toNat)
    ∧ (({ sUp with sb := { hjEn := true } }).sb.hjEn = true ∧ sUp.sb.hjEn = false)
    ∧ (s.mctpUp = true ∧ (0xFE : Byte) ≠ 0xFF ∧ s.servesType 0x7D = false ∧ s.scrapped = false ∧ stop.serves 0 = false
      ∧ s.serves 0 = true ∧ s.rxMctp.mbCheck 0x0001 { fn := 0, len := 0, words := [] } [0] [] = none
      ∧ s.rxMctp.mbCheck 0x0001 { fn := 0, len := 8, words := [0] } [0] [] = some (.badLength, .field)
      ∧ (0x0101 : BitVec 16) ∉ [(0x0001 : BitVec 16), 0x0002, 0x0901])
    ∧ (let p := onPwr s (fun q => { q with state := 4 })
      p.up = true ∧ p.pwr.state = 4 ∧ p.onBus = true ∧ p.sb.daValid = true ∧ p.sb.held.length < 8
        ∧ 8 ≤ (List.replicate 8 Instr.getEndpointId).length) := by decide +kernel

theorem test_hyps_TapAnswers :
    let dbg := onLc sUp (fun l => { l with debugOpen := true, testModes := true })
    let fld := onLc (inRows sUp 0x3F) (fun l => { l with testModes := true })
    (sUp.pwr.main = true ∧ (inRows sUp 0xFF).scrapped = true ∧ (inRows sUp 0xFF).pwr.main = true ∧ sUp.scrapped = false)
    ∧ (0x40 ≤ (0x40 : Byte).toNat ∧ (0x5F : Byte).toNat ≤ 0x5F ∧ dbg.up = true ∧ dbg.lcState ≠ 3 ∧ dbg.lc.debugOpen = true ∧ dbg.scrapped = false
      ∧ portDebugged (.core 2) = true ∧ portDebugged (.mram 0) = false
      ∧ sUp.lc.debugOpen = false)
    ∧ (0x60 ≤ (0x60 : Byte).toNat ∧ (0x6F : Byte).toNat ≤ 0x6F ∧ dbg.lc.testModes = true ∧ sUp.lc.testModes = false
      ∧ fld.lc.testModes = true ∧ fld.lcState = 4 ∧ fld.scrapped = false
      ∧ portTested 1 (.protected_ 0) = true ∧ portTested 4 (.keys 0) = false ∧ (onPwr sUp (fun p => { p with main := false })).pwr.main = false) := by decide +kernel

/-! ## One step on small states; expected values from the rules named -/

/-- The state that a command leaves. -/
def after (c : Instr) (s : State) : State := match exec c s with | .next t => t | _ => s

/-- R42: LINK_UP, FLIT, RATE 0x4 and WIDTH 16 read as 0xC0400010. -/
theorem test_link_status_word :
    (after (.registerRead 0 4 0 4) (after (.linkRetrain 4 16 true) sUp)).outbox = [.read 0xC0400010] := by decide +kernel

/-- R20: x3 is no width of the port. -/
theorem test_link_width_3 : (after (.linkRetrain 3 3 false) sUp).hif.width = 16 := by decide +kernel

/-- R29: FN_REV is silicon revision 0xB0 with firmware 2.4; FN_LAT_TOL takes bits 15:0. -/
theorem test_fn_rev : (after (.registerRead 1 0 0x20 4) sUp).outbox = [.read 0xB0020400] := by decide +kernel
theorem test_lat_tol : ((after (.fnLatTolWrite 1 0xABCD0012) sUp).fn 1).port.latTol = 0x12 := by decide +kernel

/-- R48, R50: a tail of 15 is taken by a ring of 16, a tail of 16 is error cause 1. -/
theorem test_sq_db_last : ((after (.sqDb 1 0 4 15) sUp).qp 1 0).sqTail = 15 := by decide +kernel
theorem test_sq_db_past : ((after (.sqDb 1 0 4 16) sUp).qp 1 0).errCause = 1 ∧ ((after (.sqDb 1 0 4 16) sUp).fn 1).port.dbDrops = 0 := by
  decide +kernel

/-- R48: the SQ head is read back, not the tail written. -/
theorem test_sq_db_reads_head :
    (after (.registerRead 1 2 0 4) (after (.sqDb 1 0 4 5) sUp)).outbox = [.read 0] := by decide +kernel

/-- The bytes of queue entries, each word little-endian (R51). -/
def bytesOf (l : List (List QWord)) : List Byte := l.flatMap (fun e => e.flatMap (fun w => leBytes 8 w.toNat))

/-- R52, R59: a single item takes one entry, a punnet of two steps three. -/
theorem test_fetch_single : ((after (.fetchIssue 1 0 (bytesOf [sha])) (sUp.setQp 1 0 { qp16 with sqTail := 1 })).qp 1 0).sqHead = 1 := by
  decide +kernel
theorem test_fetch_punnet :
    ((after (.fetchIssue 1 0 (bytesOf [header 2, sha, sha])) (sUp.setQp 1 0 { qp16 with sqTail := 3, sqHead := 0 })).qp 1 0).sqHead = 3 := by
  decide +kernel

/-- R63: DW1 is SQ_HEAD above SQ_ID, DW3 the status 0x42 above FLAGS, STEP 3 at bit 10 and PHASE. -/
theorem test_completion_words : cplDw1 0x12 0x345 = 0x120345 ∧ cplDw3 .expired 0 3 true = 0x42000C01
    ∧ cplDw2 0x1000000 .ceiling = 0xFFFFFF20 := by decide

/-- R336, R43: VECTOR 14 is not below FN_MSIX_COUNT 14; the creation is refused and makes nothing. -/
theorem test_qp_create_vector :
    ((after (.qpCreate (mk 1 [7, 0x1000, 16, 0x2000, 16, 14, 1, 0])) sUp).qp 1 7).valid = false
      ∧ Tab.leNat ((after (.qpCreate (mk 1 [7, 0x1000, 16, 0x2000, 16, 14, 1, 0])) sUp).fn 1).mb.buf 3 1 = 0x12 := by
  decide +kernel

/-- R337: FORMAT 2 is answered ST_VERSION_MISMATCH (0x32), whatever else is wrong. -/
theorem test_mailbox_format :
    Tab.leNat ((after (.qpDelete { mk 1 [9, 9] with format := 2 }) sUp).fn 1).mb.buf 3 1 = 0x32 := by decide +kernel

/-- R99, R36: a suspended tenant's function loses READY. -/
theorem test_suspend : ((after (.tenantSuspend (mk 0 [1])) sUp).fn 1).port.ready = false := by decide +kernel

/-- R299: a message of FORMAT 2 is rejected and counted, and changes no slot. -/
theorem test_key_format :
    (after (.keyUpdate (mk 1 [0, 100]) { newKey with format := 2 }) sKeys).vlt.reject = 1
      ∧ (after (.keyUpdate (mk 1 [0, 100]) { newKey with format := 2 }) sKeys).slot 1 5 = {} := by decide +kernel

/-- R381: a burnt fuse silences its group. -/
theorem test_burn_fuse : (after (.rindPolicyBurnFuse (mk 0 [2, 29])) sUp).nv.fuses = 0x20000000 := by decide +kernel

/-- R348, R349: the last region in service is not reloaded. -/
theorem test_last_region :
    ((after (.regionReload (mk 0 [3, 0, 1000, 0])) (onOrc sUp (fun o => { o with
      regions := [{}, {}, {}, { inService := true }] }))).region 3).draining = false := by decide +kernel

/-- R320: a demand reseed takes one block of the pool; with none it waits. -/
theorem test_reseed : (after (.rngCtrlReseed 1) sUp).rng.pool = 1 ∧ (after (.rngCtrlReseed 1) sUp).rng.reseeds = 1 := by decide +kernel
theorem test_reseed_waits : (after (.rngCtrlReseed 1) (onRng sUp (fun r => { r with pool := 0 }))).rng.demand = true := by
  decide +kernel

/-- R317: the eighth failed start-up run makes a source DEAD. -/
theorem test_eighth_run :
    ((after (.healthTestFail 0 2) (onRng sUp (fun r => { r with srcs := [{ startup := true, runs := 7 }, {}, {}] }))).rng.srcs.map
      (·.dead)) = [true, false, false] := by decide +kernel

/-- R383: on standby, ZEROISE clears the MWK, writes a latch entry and sets HOLD; HALT_SECRET keeps the MWK. -/
def standby (action : Nat) : State :=
  { (onRnd sUp (fun r => { r with supply := 1, cfg := [(25, BitVec.ofNat 32 (action * 2 ^ 29 + 0x01000001))] })) with
    pwr := { vaon := true, standby := true }, nv := { mwk := some 1 } }
theorem test_rind_zeroise :
    let t := after (.rindSensorEvent 25 0 {}) (standby 4)
    t.nv.mwk = none ∧ t.rnd.hold = true ∧ t.rnd.latch.length = 1 := by decide +kernel
theorem test_rind_halt_secret :
    let t := after (.rindSensorEvent 25 0 {}) (standby 3)
    t.nv.mwk = some 1 ∧ t.rnd.hold = true ∧ t.rnd.latch.length = 1 := by decide +kernel

/-- R371: the core glitch detectors are not active without main power. -/
theorem test_rind_glitch_on_standby : (after (.rindSensorEvent 12 0 {}) (standby 5)).rnd = (standby 5).rnd := by decide +kernel

/-- R356: an intent row begun and its state row not is an interrupted transition; SCRAPPED is row 7 begun. -/
theorem test_rows : (onLc sUp (fun l => { l with started := 0x04, complete := 0x00 })).interrupted = some 3
    ∧ (onLc sUp (fun l => { l with started := 0x80 })).lcState = 5 := by decide +kernel

/-- R143: h(0) is 3, so data bit 0 is in c[0] and c[1], and c[7] is the XOR of three ones. -/
theorem test_ecc_of_bit_0 : eccCheck 1 = 0x83 := by decide +kernel

/-- R438: the setpoint moves in steps of 5 mV. -/
theorem test_avs_up : (after (.avsSample true true) sUp).pwr.avs = 755 := by decide +kernel

/-- R442, R444: BCR 0x06; endpoint ID 0xFF is not assigned. -/
theorem test_bcr : (after .getbcr { sUp with sb := { daValid := true } }).outbox = [.i3c [0x06]] := by decide +kernel
theorem test_endpoint_id :
    (after (.setEndpointId 0x12) { sUp with sb := { daValid := true } }).sb.eid = 0x12
      ∧ (after (.setEndpointId 0xFF) { sUp with sb := { daValid := true } }).sb.eidValid = false := by decide +kernel

/-- R470: BYPASS for a code that names nothing, and in SCRAPPED for the boundary register. -/
theorem test_bypass : (after (.samplePreload [true]) (inRows sUp 0xFF)).outbox = [.tdo 1 0] := by decide +kernel

/-- R33: in ALARMED mode BAR4 reads 0 outside the five windows. -/
theorem test_alarmed_bar4 :
    (after (.registerRead 0 4 0x20000 4) (onRnd sUp (fun r => { r with alarmed := true }))).outbox = [.read 0] := by decide +kernel

/-- R85: a staged secret step leaves its unit to a scrub and sends nothing; R104 ends the scrub without a job. -/
theorem test_stage_end :
    let t := after (.stageEnd .pip 0 {}) (atWork .pip pipStep)
    (t.cell .pip 0).scrubbing = true ∧ t.outbox = [] ∧ t.orc.items.map (fun i => i.steps.map (·.phase)) = [[.staged]] := by
  decide +kernel
theorem test_scrub_end :
    ((after (.scrubEnd .pip 0) (after (.stageEnd .pip 0 {}) (atWork .pip pipStep))).cell .pip 0).job = none := by decide +kernel

/-- R395, R398: a grace timer of a regional source at LOG raises it to NOTIFY. -/
theorem test_grace :
    ((after (.graceExpire 102 {}) (sUp.setSrc 102 { state := 1, present := true, grace := 1, graceAt := 100 })).src 102).levelNow = 1 := by
  decide +kernel

end Sys2Proof.Tests
end

section
/-! SUPPORT. Accesses of the host: the guards before a register (R26, R36, R367), the one operation that a read or a write
which passes them performs, and what each register operation gives. -/

namespace Sys2Proof.Machine

variable {s : State} {f bar off size : Nat} {fn : Fin 1024}

/-! ## The arms of the dispatch -/

theorem exec_registerRead (s : State) (fn : Fin 1024) (bar off size : Nat) :
    exec (.registerRead fn bar off size) s = execRegisterRead fn bar off size s := rfl
theorem exec_registerWrite (s : State) (fn : Fin 1024) (bar off size : Nat) (v : QWord) :
    exec (.registerWrite fn bar off size v) s = execRegisterWrite fn bar off size v s := rfl
theorem exec_rngDataRead (s : State) (fn : Fin 1024) (off size : Nat) :
    exec (.rngDataRead fn off size) s = execRngDataRead fn off size s := rfl

/-! ## Sizes, offsets and BARs -/

theorem accessOk_four (h : off % 4 = 0) : accessOk off 4 = true := by simp [accessOk, h]

theorem accessOk_eight (h : off % 8 = 0) : accessOk off 8 = true := by simp [accessOk, h]

theorem inBar_zero (h : off < 0x10000) : inBar f 0 off = true := by simp [inBar, h]

theorem inBar_two (h : off < 0x10000) : inBar f 2 off = true := by simp [inBar, h]

/-- BAR number 6, which stands for configuration space, is no BAR. -/
theorem bar_ne_six_of_inBar (h : inBar f bar off = true) : bar ≠ 6 := by
  rintro rfl
  simp [inBar] at h

/-! ## The guards -/

theorem State.atBar_unsupported {k : State → State} (hr : s.reaches f = true) (hm : (s.fn f).port.mse = false) :
    s.atBar f k = s.emit .unsupported := by simp [State.atBar, hr, hm]

theorem State.atBar_mse {k : State → State} (hr : s.reaches f = true) (hm : (s.fn f).port.mse = true) :
    s.atBar f k = k s := by simp [State.atBar, hr, hm]

theorem State.access_unsupported {k : State → State} (hr : s.reaches f = true) (hm : (s.fn f).port.mse = false) :
    s.access f off size k = s.emit .unsupported := State.atBar_unsupported hr hm

theorem State.access_ok {k : State → State} (hr : s.reaches f = true) (hm : (s.fn f).port.mse = true)
    (hs : s.scrapped = false) (ha : accessOk off size = true) : s.access f off size k = k s := by
  simp [State.access, State.atBar_mse hr hm, hs, ha]

theorem State.access_bad {k : State → State} (hr : s.reaches f = true) (hm : (s.fn f).port.mse = true)
    (hs : s.scrapped = false) (ha : accessOk off size = false) : s.access f off size k = s.badAccess f := by
  simp [State.access, State.atBar_mse hr hm, hs, ha]

theorem State.onBar4_apply {k : State → State} (hr : s.reaches 0 = true) (hm : (s.fn 0).port.mse = true)
    (ha : s.rnd.alarmed = false) (hs : s.scrapped = false) : s.onBar4 k = k s := by
  simp [State.onBar4, State.atBar_mse hr hm, ha, hs]

/-- A function that accesses reach, and whose configuration space does not answer yet, asks for a retry. -/
theorem State.retries_of_reaches (h : s.reaches f = true) : s.retries f = true := by
  simp only [State.reaches, Bool.and_eq_true] at h
  simp [State.retries, h]

/-! ## BAD_ACCESS -/

@[simp] theorem State.fn_setFn_self (r : FnRec) : (s.setFn f r).fn f = r := Tab.get_put_self ..

theorem State.fn_setFn_other {g : Nat} (r : FnRec) (h : g ≠ f) : (s.setFn f r).fn g = s.fn g :=
  Tab.get_put_other _ _ _ h.symm

@[simp] theorem State.fn_emit (o : Out) (g : Nat) : (s.emit o).fn g = s.fn g := rfl

/-- A message sent or held back leaves the port registers of its function. -/
theorem State.sendMsix_port (v : Nat) : ((s.sendMsix f v).fn f).port = (s.fn f).port := by
  unfold State.sendMsix
  extract_lets r e
  split
  · simp [r]
  · split <;> rfl

/-- An event is set, whether or not it was before. -/
theorem State.fnEvent_getLsbD {bit : Nat} (h : bit < 5) :
    ((s.fnEvent f bit).fn f).port.events.getLsbD bit = true := by
  have hset : ∀ e : BitVec 5, (e ||| BitVec.ofNat 5 (2 ^ bit)).getLsbD bit = true := by
    intro e
    rw [BitVec.getLsbD_or, BitVec.getLsbD_ofNat, Nat.testBit_two_pow_self, decide_eq_true h, Bool.and_self, Bool.or_true]
  unfold State.fnEvent
  extract_lets r p s1
  have h1 : (s1.fn f).port.events.getLsbD bit = true := by simpa [s1, State.setPort] using hset _
  split
  · assumption
  · split
    · rw [State.sendMsix_port]; exact h1
    · exact h1

/-! ## Reads -/

section
variable (hr : s.reaches fn.val = true) (hm : (s.fn fn.val).port.mse = true) (hb : inBar fn.val bar off = true)
include hr hm hb

theorem exec_registerRead_bad (ha : accessOk off size = false) :
    exec (.registerRead fn bar off size) s = .next ((s.badAccess fn.val).emit (.read 0)) := by
  simp [exec_registerRead, execRegisterRead, bar_ne_six_of_inBar hb, hb, State.atBar_mse hr hm, ha]

theorem exec_registerRead_reg (ha : accessOk off size = true) (hn : ¬(bar = 0 ∧ (off = 0x2000 ∨ off = 0x2004))) :
    exec (.registerRead fn bar off size) s = .next (s.readReg fn.val bar off size) := by
  simp [exec_registerRead, execRegisterRead, bar_ne_six_of_inBar hb, hb, State.atBar_mse hr hm, ha, hn]

end

theorem exec_registerRead_rng (hr : s.reaches fn.val = true) (hm : (s.fn fn.val).port.mse = true)
    (ho : off = 0x2000 ∨ off = 0x2004) (ha : accessOk off size = true) :
    exec (.registerRead fn 0 off size) s = .next (s.rngRead fn.val size) := by
  have hb : inBar fn.val 0 off = true := inBar_zero (by omega)
  simp [exec_registerRead, execRegisterRead, hb, State.atBar_mse hr hm, ha, ho]

theorem exec_rngDataRead_ok (hr : s.reaches fn.val = true) (hm : (s.fn fn.val).port.mse = true)
    (ho : off = 0x2000 ∨ off = 0x2004) (ha : accessOk off size = true) :
    exec (.rngDataRead fn off size) s = .next (s.rngRead fn.val size) := by
  have hrow : (off == 0x2000 || off == 0x2004) = true := by simpa using ho
  simp [exec_rngDataRead, execRngDataRead, State.atBar_mse hr hm, ha, hrow]

/-- RNG_DATA with enough bytes buffered (R326). -/
theorem State.rngRead_enough (h : size ≤ (s.fn f).rngw.buf.length) :
    s.rngRead f size = (s.setRngw f { (s.fn f).rngw with buf := (s.fn f).rngw.buf.drop size }).emit
      (.read (BitVec.ofNat 64 (bytesNat ((s.fn f).rngw.buf.take size)))) := by simp [State.rngRead, h]

/-- RNG_DATA with fewer bytes buffered (R326). -/
theorem State.rngRead_underrun (h : (s.fn f).rngw.buf.length < size) :
    s.rngRead f size = (s.setRngw f { (s.fn f).rngw with
      underrun := true, underruns := satSucc (s.fn f).rngw.underruns }).emit (.read 0) := by
  simp [State.rngRead, Nat.not_le.mpr h]

/-- The low half of the tick counter latches the high half, which the second half of the read then gives (R5, R92). -/
theorem State.readReg_tick (h : s.answers 0x20000 = true) :
    s.readReg 0 4 0x20000 8 =
      { s with orc := { s.orc with tickLatch := hiWord s.orc.tick } }.emit (.read (hiWord s.orc.tick ++ loWord s.orc.tick)) := by
  have hl : s.latch4 0x20000 = { s with orc := { s.orc with tickLatch := hiWord s.orc.tick } } := by
    simp [State.latch4, h]
  have hlo : s.reg4 0x20000 = loWord s.orc.tick := by simp [State.reg4, h, State.regOrc]
  have ha : ({ s with orc := { s.orc with tickLatch := hiWord s.orc.tick } } : State).answers 0x20004 = true := h
  have hhi : ({ s with orc := { s.orc with tickLatch := hiWord s.orc.tick } } : State).reg4 0x20004 = hiWord s.orc.tick := by
    simp [State.reg4, ha, State.regOrc]
  have hl2 : ({ s with orc := { s.orc with tickLatch := hiWord s.orc.tick } } : State).latch4 0x20004
      = { s with orc := { s.orc with tickLatch := hiWord s.orc.tick } } := by simp [State.latch4]
  simp [State.readReg, State.read1, hl, hlo, hhi, hl2]

/-! ## Configuration space -/

/-- MSI-X Table Size is encoded as the count less 1 (R34). -/
theorem State.readCfg_tableSize (h : (s.fn f).ten.msix ≤ 2048) : (s.readCfg f 9).toNat = (s.fn f).ten.msix - 1 := by
  have h9 : s.readCfg f 9 = fieldAt ((s.fn f).ten.msix - 1) 0 := rfl
  rw [h9, fieldAt, BitVec.toNat_ofNat, Nat.shiftLeft_zero]
  omega

theorem State.readCfg_totalVfs : s.readCfg 0 11 = if s.hif.ari then 1023 else 0 := by
  have h11 : s.readCfg 0 11 = fieldAt s.hif.totalVfs 0 := rfl
  rw [h11, Hif.totalVfs]
  split <;> rfl

theorem exec_registerRead_cfg (h : s.cfgReaches fn.val = true) :
    exec (.registerRead fn 6 off size) s = .next (s.emit (.read ((s.readCfg fn.val off).setWidth 64))) := by
  simp [exec_registerRead, execRegisterRead, h]

theorem exec_registerRead_retry (hr : s.reaches fn.val = true) (h : s.cfgReaches fn.val = false) :
    exec (.registerRead fn 6 off size) s = .next (s.emit .crs) := by
  simp [exec_registerRead, execRegisterRead, h, State.retries_of_reaches hr]

/-! ## O44 -/

theorem exec_register_unsupported (hr : s.reaches fn.val = true) (hm : (s.fn fn.val).port.mse = false)
    (hb : inBar fn.val bar off = true) (v : QWord) :
    exec (.registerRead fn bar off size) s = .next (s.emit .unsupported)
    ∧ exec (.registerWrite fn bar off size v) s = .next (s.emit .unsupported) := by
  have h6 := bar_ne_six_of_inBar hb
  constructor
  · simp [exec_registerRead, execRegisterRead, h6, hb, State.atBar_unsupported hr hm]
  · simp [exec_registerWrite, execRegisterWrite, h6, hb, State.access_unsupported hr hm]

theorem exec_register_outside (h6 : bar ≠ 6) (hb : inBar fn.val bar off = false) (v : QWord) :
    exec (.registerRead fn bar off size) s = .next s ∧ exec (.registerWrite fn bar off size v) s = .next s := by
  simp [exec_registerRead, execRegisterRead, exec_registerWrite, execRegisterWrite, h6, hb]

theorem exec_registerWrite_bad (hr : s.reaches fn.val = true) (hm : (s.fn fn.val).port.mse = true)
    (hs : s.scrapped = false) (hb : inBar fn.val bar off = true) (ha : accessOk off size = false) (v : QWord) :
    exec (.registerWrite fn bar off size v) s = .next (s.badAccess fn.val) := by
  simp [exec_registerWrite, execRegisterWrite, bar_ne_six_of_inBar hb, hb, State.access_bad hr hm hs ha]

/-- Settles O44: each access passes or fails its guard by the lemma of that guard, and gives what its register operation gives. -/
theorem registersAnswer : Obligations.RegistersAnswer := by
  intro s fn hr
  refine ⟨?unsupported, ?outside, ?malformed, ?registers, ?random, ?randomMalformed, ?tick, ?cfg, ?retry, rfl, rfl, rfl,
    State.readCfg_totalVfs, State.readCfg_tableSize⟩
  case unsupported => exact fun hm bar off size v hb => exec_register_unsupported hr hm hb v
  case outside => exact fun bar off size v h6 hb => exec_register_outside h6 hb v
  case malformed =>
    exact fun hm bar off size hb ha => ⟨exec_registerRead_bad hr hm hb ha,
      fun hs v => exec_registerWrite_bad hr hm hs hb ha v, State.fnEvent_getLsbD (by decide)⟩
  case registers =>
    intro hm off hlt h4
    have hb0 : inBar fn.val 0 off = true := inBar_zero hlt
    have hb2 : inBar fn.val 2 off = true := inBar_two hlt
    refine ⟨fun h0 h1 => ?_, ?_, fun h8 => ?_, fun h8 h0 => ?_⟩
    · exact exec_registerRead_reg hr hm hb0 (accessOk_four h4) (by omega)
    · exact exec_registerRead_reg hr hm hb2 (accessOk_four h4) (by omega)
    · exact exec_registerRead_reg hr hm hb2 (accessOk_eight h8) (by omega)
    · exact exec_registerRead_reg hr hm hb0 (accessOk_eight h8) (by omega)
  case random =>
    intro off size hm ha ho
    refine ⟨fun h => ?_, fun h => ?_⟩
    · refine ⟨_, exec_rngDataRead_ok hr hm ho ha, exec_registerRead_rng hr hm ho ha, ?_⟩
      rw [State.rngRead_enough h]
      refine ⟨?_, rfl, ?_, fun g hg => ?_, rfl⟩
      · simp [State.setRngw]
      · simp [State.setRngw]
      · exact State.fn_setFn_other _ hg
    · refine ⟨_, exec_rngDataRead_ok hr hm ho ha, exec_registerRead_rng hr hm ho ha, ?_⟩
      rw [State.rngRead_underrun h]
      refine ⟨?_, ?_, ?_, rfl, fun g hg => ?_⟩
      · simp [State.setRngw]
      · simp [State.setRngw]
      · simp [State.setRngw]
      · exact State.fn_setFn_other _ hg
  case randomMalformed =>
    intro size hm ha
    simp [exec_rngDataRead, execRngDataRead, State.atBar_mse hr hm, ha]
  case tick =>
    rintro hm rfl hans
    refine ⟨_, exec_registerRead_reg hr hm rfl rfl (by decide), ?_⟩
    have ht := State.readReg_tick hans
    exact ⟨congrArg (·.orc.tickLatch) ht, congrArg (·.outbox) ht⟩
  case cfg => exact fun off size h => exec_registerRead_cfg h
  case retry => exact fun off size h => exec_registerRead_retry hr h

end Sys2Proof.Machine
end

section
/-! SUPPORT. Writes of the host: what each register and each configuration-space field takes (R26 to R29, R48, R94). -/

namespace Sys2Proof.Machine

variable {s : State} {f bar off size : Nat} {fn : Fin 1024}

/-! ## The arms of the dispatch -/

theorem exec_sqDb (s : State) (fn : Fin 1024) (q size : Nat) (v : QWord) :
    exec (.sqDb fn q size v) s = execSqDb fn q size v s := rfl
theorem exec_cqDb (s : State) (fn : Fin 1024) (q size : Nat) (v : Word) :
    exec (.cqDb fn q size v) s = execCqDb fn q size v s := rfl
theorem exec_cancel (s : State) (fn : Fin 1024) (q size : Nat) (v : Word) :
    exec (.cancel fn q size v) s = execCancel fn q size v s := rfl
theorem exec_fnControlWrite (s : State) (fn : Fin 1024) (v : Word) :
    exec (.fnControlWrite fn v) s = execFnControlWrite fn v s := rfl
theorem exec_fnLatTolWrite (s : State) (fn : Fin 1024) (v : Word) :
    exec (.fnLatTolWrite fn v) s = execFnLatTolWrite fn v s := rfl
theorem exec_orcTraceCtrlWrite (s : State) (v : Word) : exec (.orcTraceCtrlWrite v) s = execOrcTraceCtrlWrite v s := rfl

/-- A register value carried in the low half of a quadword. -/
theorem setWidth_word_qword (v : Word) : (v.setWidth 64).setWidth 32 = v := by simp

/-! ## Writes that pass the guard -/

section
variable (hr : s.reaches fn.val = true) (hm : (s.fn fn.val).port.mse = true) (hs : s.scrapped = false)
  (hb : inBar fn.val bar off = true)
include hr hm hs hb

theorem exec_registerWrite_four (h4 : off % 4 = 0) (v : QWord) :
    exec (.registerWrite fn bar off 4 v) s = .next (s.write1 fn.val bar off (v.setWidth 32)) := by
  simp [exec_registerWrite, execRegisterWrite, bar_ne_six_of_inBar hb, hb, State.access_ok hr hm hs (accessOk_four h4)]

/-- A write of 8 bytes is two of 4, the low one first (R5). -/
theorem exec_registerWrite_eight (h8 : off % 8 = 0) (v : QWord) :
    exec (.registerWrite fn bar off 8 v) s =
      .next ((s.write1 fn.val bar off (v.setWidth 32)).write1 fn.val bar (off + 4) (v.extractLsb' 32 32)) := by
  simp [exec_registerWrite, execRegisterWrite, bar_ne_six_of_inBar hb, hb, State.access_ok hr hm hs (accessOk_eight h8)]

end

/-- A write to a function register below 0x1000 of BAR0. -/
theorem exec_registerWrite_fnReg (hr : s.reaches fn.val = true) (hm : (s.fn fn.val).port.mse = true)
    (hs : s.scrapped = false) (h4 : off % 4 = 0) (hlt : off < 0x1000) (v : QWord) :
    exec (.registerWrite fn 0 off 4 v) s = .next (s.writeFn fn.val off (v.setWidth 32)) := by
  rw [exec_registerWrite_four hr hm hs (inBar_zero (by omega)) h4]
  simp [State.write1, State.write0, hlt]

/-! ## The doorbell block -/

theorem State.write1_doorbell {q : Nat} (v : Word) :
    s.write1 f 2 (16 * q) v = s.sqTailWrite f q v ∧ s.write1 f 2 (16 * q + 4) v = s.cqHeadWrite f q v
      ∧ s.write1 f 2 (16 * q + 8) v = s.cancelWrite f q v := by
  have hq : ∀ i, i < 16 → (16 * q + i) / 16 = q ∧ (16 * q + i) % 16 = i := fun i hi => by omega
  have h0 := hq 0 (by decide)
  have h4 := hq 4 (by decide)
  have h8 := hq 8 (by decide)
  rw [Nat.add_zero] at h0
  simp [State.write1, State.write2, h4, h8]

/-! ## ORC_TRACE_CTRL -/

theorem bitsOf_low5 (n : Nat) : bitsOf n 4 0 = n % 32 := rfl

/-- ENABLE with a ring size out of range is refused (R94). -/
theorem State.traceCtrlWrite_refused {v : Word} (he : v.getLsbD 31 = true) (hn : v.toNat % 32 < 8 ∨ 20 < v.toNat % 32) :
    s.traceCtrlWrite v = s := by
  have hw : within (bitsOf v.toNat 4 0) 8 20 = false := by
    rw [bitsOf_low5, within, Bool.and_eq_false_iff, decide_eq_false_iff_not, decide_eq_false_iff_not]
    omega
  simp only [State.traceCtrlWrite, he, hw, Bool.not_false, Bool.and_self, if_true]

/-- ENABLE keeps its value until the boundary, and every other field is taken at once (R94). -/
theorem State.traceCtrlWrite_taken {v : Word} (h : v.getLsbD 31 = false ∨ (8 ≤ v.toNat % 32 ∧ v.toNat % 32 ≤ 20)) :
    s.traceCtrlWrite v = { s with orc := { s.orc with
      traceNext := some (v &&& 0xE3FF001F)
      traceCtrl := (v &&& 0x63FF001F) ||| (s.orc.traceCtrl &&& 0x80000000) } } := by
  have hc : (v.getLsbD 31 && !within (bitsOf v.toNat 4 0) 8 20) = false := by
    rw [bitsOf_low5, within]
    rcases h with h | ⟨h1, h2⟩
    · rw [h, Bool.false_and]
    · rw [decide_eq_true h1, decide_eq_true h2, Bool.and_self, Bool.not_true, Bool.and_false]
  have hf : traceFields v &&& 0x7FFFFFFF = v &&& 0x63FF001F := by
    rw [traceFields, BitVec.and_assoc]
    rfl
  unfold State.traceCtrlWrite
  rw [hc, hf]
  rfl

/-! ## Configuration space -/

/-- Buses are assigned while no VF is enabled, one to four of them (R22, R23). -/
theorem State.writeCfg_buses (v : Word) : (s.writeCfg f 3 v).hif.buses =
    if 1 ≤ v.toNat ∧ v.toNat ≤ 4 ∧ s.hif.vfEnable = false then v.toNat else s.hif.buses := by
  simp only [State.writeCfg, Bool.not_eq_true']
  split <;> rfl

/-- The fields that a write leaves, or that a row of their own changes (assumption 11). -/
theorem State.writeCfg_readOnly (v : Word) (h : off ∈ [5, 6, 7, 8, 9, 10, 11, 12, 13, 14, 15, 16, 18, 30]) :
    s.writeCfg f off v = s := by
  simp only [List.mem_cons, List.not_mem_nil, or_false] at h
  rcases h with rfl | rfl | rfl | rfl | rfl | rfl | rfl | rfl | rfl | rfl | rfl | rfl | rfl | rfl <;> rfl

theorem exec_registerWrite_cfg (hs : s.scrapped = false) (h : s.cfgReaches fn.val = true) (v : QWord) :
    exec (.registerWrite fn 6 off size v) s = .next (s.writeCfg fn.val off (v.setWidth 32)) := by
  simp [exec_registerWrite, execRegisterWrite, h, hs]

theorem exec_registerWrite_cfgSilent (h : s.cfgReaches fn.val = false) (v : QWord) :
    exec (.registerWrite fn 6 off size v) s = .next s := by
  simp [exec_registerWrite, execRegisterWrite, h]

/-! ## O45 -/

/-- The read-only registers of BAR0 that O45 names. -/
theorem exec_registerWrite_readOnly (hr : s.reaches fn.val = true) (hm : (s.fn fn.val).port.mse = true)
    (hs : s.scrapped = false) (v : QWord) (h : off ∈ [0x000, 0x004, 0x010, 0x014, 0x020, 0x100, 0x1004, 0x140]) :
    exec (.registerWrite fn 0 off 4 v) s = .next s := by
  simp only [List.mem_cons, List.not_mem_nil, or_false] at h
  have hb : inBar fn.val 0 off = true := inBar_zero (by omega)
  rw [exec_registerWrite_four hr hm hs hb (by omega)]
  rcases h with rfl | rfl | rfl | rfl | rfl | rfl | rfl | rfl <;> rfl

/-- A write to BAR2 is the doorbell at its address (R48). -/
theorem exec_registerWrite_doorbell (hr : s.reaches fn.val = true) (hm : (s.fn fn.val).port.mse = true)
    (hs : s.scrapped = false) {q : Nat} (hq : q < 4096) (v : QWord) (w : Word) :
    exec (.registerWrite fn 2 (16 * q) 4 v) s = exec (.sqDb fn q 4 v) s
    ∧ exec (.registerWrite fn 2 (16 * q) 8 v) s = exec (.sqDb fn q 8 v) s
    ∧ exec (.registerWrite fn 2 (16 * q + 4) 4 (w.setWidth 64)) s = exec (.cqDb fn q 4 w) s
    ∧ exec (.registerWrite fn 2 (16 * q + 8) 4 (w.setWidth 64)) s = exec (.cancel fn q 4 w) s := by
  have hdb := fun (t : State) (x : Word) => State.write1_doorbell (s := t) (f := fn.val) (q := q) x
  refine ⟨?_, ?_, ?_, ?_⟩
  · rw [exec_registerWrite_four hr hm hs (inBar_two (by omega)) (by omega), (hdb _ _).1, exec_sqDb, execSqDb,
      State.access_ok hr hm hs (accessOk_four (by omega))]
    rfl
  · rw [exec_registerWrite_eight hr hm hs (inBar_two (by omega)) (by omega), (hdb _ _).1, (hdb _ _).2.1, exec_sqDb, execSqDb,
      State.access_ok hr hm hs (accessOk_eight (by omega))]
    rfl
  · rw [exec_registerWrite_four hr hm hs (inBar_two (by omega)) (by omega), setWidth_word_qword, (hdb _ _).2.1, exec_cqDb,
      execCqDb, State.access_ok hr hm hs (accessOk_four (by omega))]
  · rw [exec_registerWrite_four hr hm hs (inBar_two (by omega)) (by omega), setWidth_word_qword, (hdb _ _).2.2, exec_cancel,
      execCancel, State.access_ok hr hm hs (accessOk_four (by omega))]
    rfl

/-- Settles O45: a write passes its guard and is the write of its register, which takes what the register's lemma says. -/
theorem registersAreWritten : Obligations.RegistersAreWritten := by
  intro s fn hr hm hs
  have hreg := fun off h4 hlt v => exec_registerWrite_fnReg (off := off) hr hm hs h4 hlt v
  refine ⟨fun v => ?events, fun v => ?drops, fun v => ?overload,
    fun v off h => exec_registerWrite_readOnly hr hm hs v h, fun bar off v h8 hb => ?halves,
    fun q v w hq => exec_registerWrite_doorbell hr hm hs hq v w, fun v => ?control, fun v => ?tolerance, fun v ha h0 => ?trace,
    fun off size v h => exec_registerWrite_cfg hs h v, fun off size v h => exec_registerWrite_cfgSilent h v,
    fun v => ⟨rfl, State.writeCfg_buses v, fun off h => State.writeCfg_readOnly v h⟩⟩
  case events =>
    rw [hreg 0x00C rfl (by decide), setWidth_word_qword]
    rfl
  case drops =>
    rw [hreg 0x01C rfl (by decide), setWidth_word_qword]
    rfl
  case overload =>
    rw [hreg 0x128 rfl (by decide)]
    rfl
  case halves =>
    refine ⟨_, exec_registerWrite_four hr hm hs hb (by omega) _, ?_⟩
    rw [exec_registerWrite_eight hr hm hs hb h8, setWidth_word_qword]
  case control =>
    have hrow : exec (.fnControlWrite fn v) s = .next (s.fnControl fn.val v) := by
      rw [exec_fnControlWrite, execFnControlWrite, State.access_ok hr hm hs rfl]
    refine ⟨hrow, ?_⟩
    rw [hrow, hreg 0x008 rfl (by decide), setWidth_word_qword]
    rfl
  case tolerance =>
    have hrow : exec (.fnLatTolWrite fn v) s = .next (s.latTolWrite fn.val v) := by
      rw [exec_fnLatTolWrite, execFnLatTolWrite, State.access_ok hr hm hs rfl]
    refine ⟨hrow, ?_⟩
    rw [hrow, hreg 0x018 rfl (by decide), setWidth_word_qword]
    rfl
  case trace =>
    subst h0
    have hrow : exec (.orcTraceCtrlWrite v) s = .next (s.traceCtrlWrite v) := by
      rw [exec_orcTraceCtrlWrite, execOrcTraceCtrlWrite, State.onBar4_apply hr hm ha hs]
    refine ⟨fun h => ?_, fun he hn => ?_⟩
    · rw [hrow, State.traceCtrlWrite_taken h]
    · rw [hrow, State.traceCtrlWrite_refused he hn]

end Sys2Proof.Machine
end

section
/-! SUPPORT. The sideband: what reaches the I3C target and the MCTP endpoint, and what each message gives (R442, R444, R445). -/

namespace Sys2Proof.Machine

variable {s : State}

/-! ## The target on the bus -/

theorem State.onBus_iff : s.onBus = true ↔ s.pwr.vaon = true ∧ s.sb.lpbkDepth ≠ 1 := by simp [State.onBus]

theorem State.ccc_heard {k : State → State} (hb : s.onBus = true) (hd : s.sb.daValid = true) : s.ccc k = k s := by
  simp [State.ccc, hb, hd]

theorem State.ccc_unheard {k : State → State} (h : s.onBus = false ∨ s.sb.daValid = false) : s.ccc k = s := by
  rcases h with h | h <;> simp [State.ccc, h]

/-- Two bytes, the more significant first. -/
theorem beBytes_two (n : BitVec 16) : beBytes 2 n.toNat = [n.toNat / 256, n.toNat % 256] := by
  have hn : n.toNat < 65536 := n.isLt
  have h : beBytes 2 n.toNat = [n.toNat / 256 % 256, n.toNat % 256] := rfl
  rw [h, Nat.mod_eq_of_lt (by omega)]

/-- A command that the target takes only through its pins does nothing while the pins are tri-stated or unpowered (R458). -/
theorem exec_ccc_offBus (h : s.onBus = false) (da : BitVec 7) (bits : BitVec 8) (code : Byte) {c : Instr}
    (hc : c ∈ [Instr.entdaa da, .rstdaa, .rstact, .enec bits, .disec bits, .cccUnsupported code, .hotJoin]) :
    exec c s = .next s := by
  simp only [List.mem_cons, List.not_mem_nil, or_false] at hc
  rcases hc with rfl | rfl | rfl | rfl | rfl | rfl | rfl
  · change execEntdaa da s = _; simp [execEntdaa, h]
  · change execRstdaa s = _; simp [execRstdaa, h]
  · change execRstact s = _; simp [execRstact, h]
  · change execEnec bits s = _; simp [execEnec, h]
  · change execDisec bits s = _; simp [execDisec, h]
  · change execCccUnsupported code s = _; simp [execCccUnsupported, h]
  · change execHotJoin s = _; simp [execHotJoin, h]

/-- A direct CCC does nothing without a dynamic address. -/
theorem exec_ccc_unheard (h : s.onBus = false ∨ s.sb.daValid = false) (n : BitVec 16) {c : Instr}
    (hc : c ∈ [Instr.getpid, .getbcr, .getdcr, .getmwl, .getmrl, .setmwl n, .setmrl n, .getstatus]) : exec c s = .next s := by
  simp only [List.mem_cons, List.not_mem_nil, or_false] at hc
  rcases hc with rfl | rfl | rfl | rfl | rfl | rfl | rfl | rfl <;> exact congrArg Host.Outcome.next (State.ccc_unheard h)

section
variable (hb : s.onBus = true)
include hb

theorem exec_entdaa_takes (hd : s.sb.daValid = false) (da : BitVec 7) :
    exec (.entdaa da) s = .next (({ s with sb := { s.sb with daValid := true, da := da } } : State).emit
      (.i3c (beBytes 6 s.provId.toNat ++ [0x06, 0x00]))) := by
  change execEntdaa da s = _
  simp only [execEntdaa, hb, hd, Bool.not_false, Bool.and_self, if_true]
  rfl

omit hb in
theorem exec_entdaa_addressed (hd : s.sb.daValid = true) (da : BitVec 7) : exec (.entdaa da) s = .next s := by
  change execEntdaa da s = _
  simp [execEntdaa, hd]

theorem exec_rstdaa_onBus : exec .rstdaa s = .next { s with sb := { s.sb with daValid := false, da := 0 } } := by
  change execRstdaa s = _
  simp [execRstdaa, hb]

theorem exec_rstact_onBus : exec .rstact s = .next { s with sb := { s.sb with
    daValid := false, da := 0, eidValid := false, eid := 0, ibiEn := false, hjEn := false } } := by
  change execRstact s = _
  simp [execRstact, hb]

theorem exec_enec_onBus (bits : BitVec 8) : exec (.enec bits) s = .next { s with sb := { s.sb with
    ibiEn := s.sb.ibiEn || bits.getLsbD 0, hjEn := s.sb.hjEn || bits.getLsbD 3 } } := by
  change execEnec bits s = _
  simp only [execEnec, hb, if_true]

theorem exec_disec_onBus (bits : BitVec 8) : exec (.disec bits) s = .next { s with sb := { s.sb with
    ibiEn := s.sb.ibiEn && !bits.getLsbD 0, hjEn := s.sb.hjEn && !bits.getLsbD 3 } } := by
  change execDisec bits s = _
  simp only [execDisec, hb, if_true]

theorem exec_cccUnsupported_onBus (code : Byte) : exec (.cccUnsupported code) s = .next (s.emit .i3cNack) := by
  change execCccUnsupported code s = _
  simp [execCccUnsupported, hb]

theorem exec_hotJoin_asks (hd : s.sb.daValid = false) (hj : s.sb.hjEn = true) :
    exec .hotJoin s = .next (s.emit (.i3c [0x02])) := by
  change execHotJoin s = _
  simp [execHotJoin, State.i3cSay, hb, hd, hj]

omit hb in
theorem exec_hotJoin_silent (h : s.sb.daValid = true ∨ s.sb.hjEn = false) : exec .hotJoin s = .next s := by
  change execHotJoin s = _
  rcases h with h | h <;> simp [execHotJoin, h]

variable (hd : s.sb.daValid = true)
include hd

theorem exec_getmwl_heard : exec .getmwl s = .next (s.emit (.i3c [s.sb.mwl.toNat / 256, s.sb.mwl.toNat % 256])) := by
  change execGetmwl s = _
  rw [execGetmwl, State.ccc_heard hb hd, beBytes_two]
  rfl

theorem exec_getmrl_heard : exec .getmrl s = .next (s.emit (.i3c [s.sb.mrl.toNat / 256, s.sb.mrl.toNat % 256])) := by
  change execGetmrl s = _
  rw [execGetmrl, State.ccc_heard hb hd, beBytes_two]
  rfl

theorem exec_setLength_taken {n : BitVec 16} (h1 : 69 ≤ n.toNat) (h2 : n.toNat ≤ 256) :
    exec (.setmwl n) s = .next { s with sb := { s.sb with mwl := n } }
    ∧ exec (.setmrl n) s = .next { s with sb := { s.sb with mrl := n } } := by
  change execSetmwl n s = _ ∧ execSetmrl n s = _
  simp [execSetmwl, execSetmrl, State.ccc_heard hb hd, within, h1, h2]

theorem exec_setLength_refused {n : BitVec 16} (h : n.toNat < 69 ∨ 256 < n.toNat) :
    exec (.setmwl n) s = .next (s.emit .i3cNack) ∧ exec (.setmrl n) s = .next (s.emit .i3cNack) := by
  have hw : ¬(69 ≤ n.toNat ∧ n.toNat ≤ 256) := by omega
  change execSetmwl n s = _ ∧ execSetmrl n s = _
  simp [execSetmwl, execSetmrl, State.ccc_heard hb hd, within, hw]

theorem exec_getstatus_heard : exec .getstatus s = .next ((s.emit (.i3c
    [(Config.freeByte s.free).toNat, (Config.freeByte (s.free + 1)).toNat])).draw 2) :=
  congrArg Host.Outcome.next (State.ccc_heard hb hd)

end

/-! ## The MCTP endpoint -/

/-- The commands that the endpoint passes to the mailbox (R444). -/
theorem mctpCommand_iff {cmd : BitVec 16} :
    (cmd.toNat == 0x0001 || cmd.toNat == 0x0002 || cmd.toNat == 0x0901) = true
      ↔ cmd ∈ [(0x0001 : BitVec 16), 0x0002, 0x0901] := by
  simp [← BitVec.toNat_inj, or_assoc]

theorem toNat_eq_logRead {cmd : BitVec 16} : (cmd.toNat = 0x0901) = (cmd = 0x0901) := by simp [← BitVec.toNat_inj]

theorem State.txMctp_eq (s : State) (o : Out) : s.txMctp o = { s with
    sb := { s.sb with tx := s.sb.tx + 1 }
    outbox := s.outbox ++ (if s.sb.ibiEn then [.ibi Config.ibiByte] else []) ++ [o] } := by
  cases h : s.sb.ibiEn <;> simp [State.txMctp, State.emit, h]

@[simp] theorem State.txMctp_free (o : Out) : (s.txMctp o).free = s.free := by rw [State.txMctp_eq]

theorem State.mctpControl_up {c : Instr} {k : State → State} (h : s.mctpUp = true) : s.mctpControl c k = k s.rxMctp := by
  simp [State.mctpControl, h]

section
variable (h : s.mctpUp = true)
include h

theorem exec_setEndpointId_assigns {eid : Byte} (he : eid ≠ 0xFF) :
    exec (.setEndpointId eid) s = .next (({ s.rxMctp with sb := { s.rxMctp.sb with
      eidValid := eid != 0, eid := eid } } : State).txMctp (.mctp [0x00, 0x00, eid.toNat, 0x00])) := by
  change execSetEndpointId eid s = _
  rw [execSetEndpointId, State.mctpControl_up h, if_neg he]
  rfl

theorem exec_setEndpointId_refuses : exec (.setEndpointId 0xFF) s = .next (s.rxMctp.txMctp (.mctp [0x02])) := by
  change execSetEndpointId 0xFF s = _
  rw [execSetEndpointId, State.mctpControl_up h, if_pos rfl]
  rfl

theorem exec_getEndpointId_up :
    exec .getEndpointId s = .next (s.rxMctp.txMctp (.mctp [0x00, s.sb.eid.toNat, 0x00, 0x00])) :=
  congrArg Host.Outcome.next (State.mctpControl_up h)

theorem exec_getMessageTypeSupport_up :
    exec .getMessageTypeSupport s = .next (s.rxMctp.txMctp (.mctp [0x00, 0x03, 0x05, 0x06, 0x7E])) :=
  congrArg Host.Outcome.next (State.mctpControl_up h)

theorem exec_getEndpointUuid_up :
    exec .getEndpointUuid s = .next (s.rxMctp.txMctp (.mctp (0x00 :: beBytes 16 Config.uuid.toNat))) :=
  congrArg Host.Outcome.next (State.mctpControl_up h)

/-- The version entry of four bytes is open, and drawn (R444). -/
theorem exec_getMctpVersionSupport_up : exec .getMctpVersionSupport s = .next
    { s.rxMctp.txMctp (.mctp ([0x00, 0x01] ++ (freeBytes s.free 4).map (·.toNat))) with free := s.free + 4 } := by
  change execGetMctpVersionSupport s = _
  simp only [execGetMctpVersionSupport, State.mctpControl_up h, State.draw, State.mctpSay, State.txMctp_free]
  rfl

theorem exec_mctpTypeDropped_up {typ : Byte} (ht : s.servesType typ = false) :
    exec (.mctpTypeDropped typ) s = .next s.rxMctp := by
  change execMctpTypeDropped typ s = _
  simp [execMctpTypeDropped, h, ht]

/-! ## Mailbox commands over MCTP -/

theorem exec_mctpVendorMailbox_dropped {cmd : BitVec 16} (hc : cmd ∉ [(0x0001 : BitVec 16), 0x0002, 0x0901]) (r : MbReq) :
    exec (.mctpVendorMailbox cmd r) s = .next s := by
  have hn := Bool.eq_false_iff.mpr (mt mctpCommand_iff.mp hc)
  change execMctpVendorMailbox cmd r s = _
  simp only [execMctpVendorMailbox, h, hn, Bool.not_true, Bool.not_false, Bool.or_true, Bool.false_eq_true, if_true, if_false]

variable (he : s.sb.eidValid = true) (hs : s.scrapped = false) {cmd : BitVec 16} {r0 : MbReq}
  (hc : cmd ∈ [(0x0001 : BitVec 16), 0x0002, 0x0901])
include he hs hc

theorem exec_mctpVendorMailbox_unserved (hv : s.serves 0 = false) :
    exec (.mctpVendorMailbox cmd r0) s =
      .next (s.rxMctp.mctpReply { r0 with fn := 0 } cmd.toNat (.bad .stateRefused .mpRestarting)) := by
  have hv' : s.rxMctp.serves 0 = false := hv
  change execMctpVendorMailbox cmd r0 s = _
  simp only [execMctpVendorMailbox, h, he, hs, mctpCommand_iff.mpr hc, hv', Bool.not_true, Bool.not_false, Bool.or_self,
    Bool.false_eq_true, if_false, if_true]

theorem exec_mctpVendorMailbox_refused (hv : s.serves 0 = true) {st : Status} {why : Reason}
    (hk : s.rxMctp.mbCheck cmd.toNat { r0 with fn := 0 } [if cmd = 0x0901 then 16 else 0] [] = some (st, why)) :
    exec (.mctpVendorMailbox cmd r0) s = .next (s.rxMctp.mctpReply { r0 with fn := 0 } cmd.toNat (.bad st why)) := by
  have hv' : s.rxMctp.serves 0 = true := hv
  change execMctpVendorMailbox cmd r0 s = _
  simp only [execMctpVendorMailbox, h, he, hs, mctpCommand_iff.mpr hc, hv', toNat_eq_logRead, hk, Bool.not_true, Bool.or_self,
    Bool.false_eq_true, if_false]

theorem exec_mctpVendorMailbox_served (hv : s.serves 0 = true)
    (hk : s.rxMctp.mbCheck cmd.toNat { r0 with fn := 0 } [if cmd = 0x0901 then 16 else 0] [] = none) :
    exec (.mctpVendorMailbox cmd r0) s = .next (s.rxMctp.mctpReply { r0 with fn := 0 } cmd.toNat
      (s.rxMctp.mctpServe cmd.toNat { r0 with fn := 0 })) := by
  have hv' : s.rxMctp.serves 0 = true := hv
  change execMctpVendorMailbox cmd r0 s = _
  simp only [execMctpVendorMailbox, h, he, hs, mctpCommand_iff.mpr hc, hv', toNat_eq_logRead, hk, Bool.not_true, Bool.or_self,
    Bool.false_eq_true, if_false]

end

/-- LOG_READ within the limits of R419. -/
theorem State.mctpServe_logRead {r : MbReq} (hl : logLimits (r.w 0) (r.w 1) = true) :
    s.mctpServe 0x0901 r = .ok 0 (s.logBytesAt (r.w 0) (r.w 1)) := by simp [State.mctpServe, hl]

theorem State.mctpServe_logRead_refused {r : MbReq} (hl : logLimits (r.w 0) (r.w 1) = false) :
    s.mctpServe 0x0901 r = .bad .badRange .none := by simp [State.mctpServe, hl]

/-! ## Messages in P4 -/

theorem State.mctpUp_p4 (h : s.pwr.state = 4) : s.mctpUp = false := by simp [State.mctpUp, h]

theorem State.spdmTake_p4 (h : s.pwr.state = 4) (c : Instr) (k : State → State) :
    s.spdmTake .mctp c k = s.holdWrite c := by simp [State.spdmTake, State.spdmUp, State.mctpUp_p4 h]

theorem State.mctpControl_p4 (h : s.pwr.state = 4) (c : Instr) (k : State → State) :
    s.mctpControl c k = s.holdWrite c := by simp [State.mctpControl, State.mctpUp_p4 h]

/-- In P4 every message over MCTP goes to the always-on buffer (R445). -/
theorem exec_mctp_p4 (h : s.pwr.state = 4) {eid typ : Byte} {cmd : BitVec 16} {r : MbReq} {t : Transport} {c : Instr}
    (hc : c ∈ [Instr.setEndpointId eid, .getEndpointId, .getMctpVersionSupport, .getMessageTypeSupport, .getEndpointUuid,
      .mctpTypeDropped typ, .mctpVendorMailbox cmd r, .spdmGetDigests .mctp, .spdmHeartbeat .mctp, .spdmGetVersion t])
    (hd : c ≠ .spdmGetVersion .doe) : exec c s = .next (s.holdWrite c) := by
  simp only [List.mem_cons, List.not_mem_nil, or_false] at hc
  rcases hc with rfl | rfl | rfl | rfl | rfl | rfl | rfl | rfl | rfl | rfl
  iterate 5 exact congrArg Host.Outcome.next (State.mctpControl_p4 h _ _)
  · change execMctpTypeDropped typ s = _
    simp [execMctpTypeDropped, State.mctpUp_p4 h]
  · change execMctpVendorMailbox cmd r s = _
    simp [execMctpVendorMailbox, State.mctpUp_p4 h]
  iterate 2 exact congrArg Host.Outcome.next (State.spdmTake_p4 h _ _)
  · cases t with
    | doe => exact absurd rfl hd
    | mctp => exact congrArg Host.Outcome.next (State.spdmTake_p4 h _ _)

/-- The always-on buffer takes eight messages (R445). -/
theorem State.holdWrite_p4 (hu : s.up = true) (h : s.pwr.state = 4) (hb : s.onBus = true) (hd : s.sb.daValid = true) (c : Instr) :
    s.holdWrite c = if s.sb.held.length < 8 then { s with sb := { s.sb with held := s.sb.held ++ [c] } } else s := by
  simp [State.holdWrite, hu, h, hb, hd]

/-! ## O59 -/

/-- Settles O59: the commands of the target by their lemmas; the messages of the endpoint, where an answer is one `txMctp`. -/
theorem sidebandAnswers : Obligations.SidebandAnswers := by
  intro s say tell
  have htell : tell = State.txMctp := by
    funext t o
    exact (State.txMctp_eq t o).symm
  clear_value tell
  subst htell
  refine ⟨State.onBus_iff, fun h da bits code c hc => exec_ccc_offBus h da bits code hc, fun hb => ?target,
    fun h n c hc => exec_ccc_unheard h n hc, fun h => ?endpoint, fun hu h4 hb hd eid typ cmd r t c hc hne => ?held⟩
  case target =>
    refine ⟨fun da hd => exec_entdaa_takes hb hd da, fun da hd => exec_entdaa_addressed hd da, exec_rstdaa_onBus hb,
      exec_rstact_onBus hb, fun bits => ⟨exec_enec_onBus hb bits, exec_disec_onBus hb bits⟩, fun hd => ?_,
      exec_cccUnsupported_onBus hb, exec_hotJoin_asks hb, exec_hotJoin_silent⟩
    exact ⟨congrArg Host.Outcome.next (State.ccc_heard hb hd), congrArg Host.Outcome.next (State.ccc_heard hb hd),
      exec_getmwl_heard hb hd, exec_getmrl_heard hb hd, fun n => exec_setLength_taken hb hd,
      fun n => exec_setLength_refused hb hd, _, _, exec_getstatus_heard hb hd⟩
  case endpoint =>
    refine ⟨fun eid => exec_setEndpointId_assigns h, exec_setEndpointId_refuses h, exec_getEndpointId_up h,
      exec_getMessageTypeSupport_up h, exec_getEndpointUuid_up h, ?version, fun typ => exec_mctpTypeDropped_up h,
      fun he hs cmd r0 hc => ?mailbox, fun cmd r hc => exec_mctpVendorMailbox_dropped h hc r⟩
    case version => exact ⟨(freeBytes s.free 4).map BitVec.toNat, by simp [freeBytes], exec_getMctpVersionSupport_up h⟩
    case mailbox =>
      intro r answer lens
      refine ⟨exec_mctpVendorMailbox_unserved h he hs hc,
        fun hv => ⟨fun st why => exec_mctpVendorMailbox_refused h he hs hc hv, fun hk => ?_⟩⟩
      have hx := exec_mctpVendorMailbox_served h he hs hc hv hk
      refine ⟨?_, ?_, ?_⟩
      · rintro rfl
        exact hx
      · rintro rfl
        exact hx
      · rintro rfl
        cases hl : logLimits (r.w 0) (r.w 1) with
        | true => exact hx.trans (congrArg (Host.Outcome.next <| s.rxMctp.mctpReply r 0x0901 ·) (State.mctpServe_logRead hl))
        | false =>
          exact hx.trans (congrArg (Host.Outcome.next <| s.rxMctp.mctpReply r 0x0901 ·) (State.mctpServe_logRead_refused hl))
  case held =>
    rw [exec_mctp_p4 h4 hc hne, State.holdWrite_p4 hu h4 hb hd]
    exact ⟨fun hl => by rw [if_pos hl], fun hl => by rw [if_neg (Nat.not_lt.mpr hl)]⟩

end Sys2Proof.Machine
end

section
/-! SUPPORT. Mailbox requests that every check lets through, and the queue pairs they make, delete and change (R43, R44, R113,
R115, R214, R337). -/

namespace Sys2Proof.Machine

variable {s : State} {f g q q' : Nat} {r : MbReq}

/-! ## A request that every check lets through -/

/-- The command of such a request runs on the state after GO, and its reply is the answer (R334, R337). -/
theorem State.mbRun_of_mbTakes {t : State} {x : Reply} {code : Nat} {lens : List Nat} {masks : List QWord}
    {k : State → State × Reply} (h : s.mbTakes code r lens masks) (hk : k (s.mbGo r.fn.val) = (t, x)) :
    s.mbRun code r lens masks k = t.answer code r x := by
  obtain ⟨hreach, hbusy, hserves, hcheck⟩ := h
  simp only [State.mbReaches, Bool.and_eq_true, Bool.not_eq_true'] at hreach
  obtain ⟨⟨hr, hm⟩, hs⟩ := hreach
  simp [State.mbRun, State.atBar_mse hr hm, hs, hbusy, hserves, State.mbServe, hcheck, hk]

/-! ## What leaves the queue pairs alone -/

theorem State.qp_of_qm_eq {t : State} (h : t.qm = s.qm) : t.qp f q = s.qp f q := by simp [State.qp, h]

@[simp] theorem State.mbGo_qm : (s.mbGo f).qm = s.qm := rfl

@[simp] theorem State.sendLtr_qm (st : Nat) : (s.sendLtr st).qm = s.qm := by
  simp only [State.sendLtr]
  split <;> rfl

@[simp] theorem State.noteTol_qm : s.noteTol.qm = s.qm := by
  simp only [State.noteTol]
  split
  · rfl
  · split <;> exact State.sendLtr_qm _

theorem State.mbGo_qp : (s.mbGo g).qp f q = s.qp f q := State.qp_of_qm_eq State.mbGo_qm

theorem State.noteTol_qp : s.noteTol.qp f q = s.qp f q := State.qp_of_qm_eq State.noteTol_qm

/-! ## The table of queue pairs -/

theorem qpKey_inj (hq : q < 4096) (hq' : q' < 4096) : qpKey f q = qpKey g q' ↔ f = g ∧ q = q' := by
  unfold qpKey
  omega

@[simp] theorem State.qp_setQp_self (hq : q < 4096) (p : Qp) : (s.setQp f q p).qp f q = p := by
  simp [State.setQp, State.qp, hq]

theorem State.qp_setQp_other (h : (g, q') ≠ (f, q)) (p : Qp) : (s.setQp f q p).qp g q' = s.qp g q' := by
  unfold State.setQp
  split
  case isFalse => rfl
  case isTrue hq =>
    unfold State.qp
    split
    case isFalse => rfl
    case isTrue hq' =>
      have hkey : qpKey f q ≠ qpKey g q' := fun e => by
        obtain ⟨rfl, rfl⟩ := (qpKey_inj hq hq').mp e
        exact h rfl
      exact Tab.get_put_other _ _ _ hkey

theorem State.holdsIdx_lt (h : s.holdsIdx f q = true) : q < 4096 := by
  simp only [State.holdsIdx, Bool.and_eq_true, decide_eq_true_eq] at h
  exact h.1

/-! ## The device-wide number (R43) -/

/-- The search ends on a number of the list only if the list holds every number it looked at. -/
theorem mem_of_lowestFree_mem {l : List Nat} {k n : Nat} (h : lowestFree l k n ∈ l) : ∀ m, n ≤ m → m ≤ n + k → m ∈ l := by
  induction k generalizing n with
  | zero =>
    intro m hn hm
    obtain rfl : m = n := by omega
    exact h
  | succ k ih =>
    simp only [lowestFree, List.contains_iff_mem] at h
    split at h
    case isFalse hn => exact absurd h hn
    case isTrue hmem =>
      intro m hn hm
      rcases Nat.eq_or_lt_of_le hn with rfl | hlt
      · exact hmem
      · exact ih h m hlt (by omega)

/-- A list of `l.length` numbers lacks one of the first `l.length + 1`, so the search finds a number that is free. -/
theorem lowestFree_not_mem (l : List Nat) : lowestFree l l.length 0 ∉ l := by
  intro h
  have hsub : List.range (l.length + 1) ⊆ l := fun m hm =>
    mem_of_lowestFree_mem h m (Nat.zero_le m) (by have := List.mem_range.mp hm; omega)
  have hlen := List.nodup_range.length_le_of_subset hsub
  rw [List.length_range] at hlen
  omega

theorem State.freeQpNum_free {e : Nat × Qp} (he : e ∈ s.qm.qps) : e.2.num ≠ s.freeQpNum := by
  have hfree := lowestFree_not_mem (s.qm.qps.map (fun e => e.2.num))
  rw [List.length_map] at hfree
  exact fun h => hfree (List.mem_map.mpr ⟨e, he, h⟩)

/-! ## QP_CREATE (R43, R44, R113) -/

theorem exec_qpCreate_made (h : s.mbTakes 0x0101 r [64] []) (hfit : (s.mbGo r.fn.val).qpFits r.fn.val r = true) :
    let t := s.mbGo r.fn.val
    exec (.qpCreate r) s = .next ((t.setQp r.fn.val (r.w 0) (newQp r t.freeQpNum)).noteTol.answer 0x0101 r
      (.words [BitVec.ofNat 64 t.freeQpNum])) := by
  change execQpCreate r s = _
  rw [execQpCreate, State.mbRun_of_mbTakes h]
  simp only [hfit, Bool.not_true, Bool.false_eq_true, if_false]

theorem exec_qpCreate_refused (h : s.mbTakes 0x0101 r [64] []) (hfit : (s.mbGo r.fn.val).qpFits r.fn.val r = false) :
    exec (.qpCreate r) s = .next ((s.mbGo r.fn.val).answer 0x0101 r (.bad .badRange .none)) := by
  change execQpCreate r s = _
  rw [execQpCreate, State.mbRun_of_mbTakes h]
  simp only [hfit, Bool.not_false, if_true]

/-! ## QP_DELETE (R44) -/

section
variable (h : s.mbTakes 0x0102 r [8] [])
include h

theorem exec_qpDelete_unheld (hidx : (s.mbGo r.fn.val).holdsIdx r.fn.val (r.w 0) = false) :
    exec (.qpDelete r) s = .next ((s.mbGo r.fn.val).answer 0x0102 r (.bad .badRange .none)) := by
  change execQpDelete r s = _
  rw [execQpDelete, State.mbRun_of_mbTakes h]
  simp only [hidx, Bool.not_false, if_true]

variable (hidx : (s.mbGo r.fn.val).holdsIdx r.fn.val (r.w 0) = true)
include hidx

theorem exec_qpDelete_busy (hout : ((s.mbGo r.fn.val).qp r.fn.val (r.w 0)).outstanding ≠ 0) :
    exec (.qpDelete r) s = .next ((s.mbGo r.fn.val).answer 0x0102 r (.bad .stateRefused .qpBusy)) := by
  change execQpDelete r s = _
  rw [execQpDelete, State.mbRun_of_mbTakes h]
  simp only [hidx, hout, Bool.not_true, Bool.false_eq_true, if_false, ne_eq, not_false_eq_true, if_true]

theorem exec_qpDelete_deleted (hout : ((s.mbGo r.fn.val).qp r.fn.val (r.w 0)).outstanding = 0) :
    exec (.qpDelete r) s = .next (((s.mbGo r.fn.val).setQp r.fn.val (r.w 0) {}).noteTol.answer 0x0102 r .done) := by
  change execQpDelete r s = _
  rw [execQpDelete, State.mbRun_of_mbTakes h]
  simp only [hidx, hout, Bool.not_true, Bool.false_eq_true, if_false, ne_eq, not_true_eq_false]

end

/-! ## QP_INTERRUPT (R44, R113, R115) and PULP_FLUSH (R214) -/

theorem exec_qpInterrupt_set (h : s.mbTakes 0x0103 r [32] []) (hidx : (s.mbGo r.fn.val).holdsIdx r.fn.val (r.w 0) = true)
    (hv : r.w 1 < ((s.mbGo r.fn.val).fn r.fn.val).ten.msix) (hco : coalOk (r.w 2) (r.w 3) = true) :
    let t := s.mbGo r.fn.val
    exec (.qpInterrupt r) s = .next ((t.setQp r.fn.val (r.w 0) { t.qp r.fn.val (r.w 0) with
      nextInt := some (r.w 1, r.w 2, r.w 3) }).answer 0x0103 r .done) := by
  change execQpInterrupt r s = _
  rw [execQpInterrupt, State.mbRun_of_mbTakes h]
  simp only [hidx, hco, decide_eq_false (Nat.not_le.mpr hv), Bool.not_true, Bool.or_self, Bool.false_eq_true, if_false]

theorem exec_qpInterrupt_refused (h : s.mbTakes 0x0103 r [32] [])
    (hbad : (s.mbGo r.fn.val).holdsIdx r.fn.val (r.w 0) = false ∨ ((s.mbGo r.fn.val).fn r.fn.val).ten.msix ≤ r.w 1
      ∨ coalOk (r.w 2) (r.w 3) = false) :
    exec (.qpInterrupt r) s = .next ((s.mbGo r.fn.val).answer 0x0103 r (.bad .badRange .none)) := by
  change execQpInterrupt r s = _
  rw [execQpInterrupt, State.mbRun_of_mbTakes h]
  refine if_pos ?_
  simp only [Bool.or_eq_true, Bool.not_eq_true', decide_eq_true_eq]
  exact or_assoc.mpr hbad

theorem exec_pulpFlush_takes (h : s.mbTakes 0x0104 r [0] []) :
    let t := s.mbGo r.fn.val
    exec (.pulpFlush r) s = .next (((t.setPulp { t.pulp with
      entries := t.pulp.entries.filter (fun e => !inPart r.fn.val true e) }).setPulpPart r.fn.val
        { (t.fn r.fn.val).pulp with epoch := (t.fn r.fn.val).pulp.epoch + 1 }).answer 0x0104 r .done) :=
  congrArg Host.Outcome.next (State.mbRun_of_mbTakes h rfl)

/-! ## O33 -/

/-- Settles O33: each reply by its lemma; what QP_CREATE leaves in the table by the laws of `setQp`, and its number by the search
for the lowest free one. -/
theorem queuePairsAreMadeAndDeleted : Obligations.QueuePairsAreMadeAndDeleted := by
  intro s r fn t
  refine ⟨fun h hfit => exec_qpCreate_refused h hfit, fun h hfit hlt => ?create, fun h hidx => ?delete,
    fun h hidx => exec_qpDelete_unheld h hidx, fun h hidx hv hco => exec_qpInterrupt_set h hidx hv hco,
    fun h hbad => exec_qpInterrupt_refused h hbad, fun h => exec_pulpFlush_takes h⟩
  case create =>
    refine ⟨exec_qpCreate_made h hfit, fun e he => State.freeQpNum_free (s := t) he, ?_, fun g q hne => ?_⟩
    · rw [State.noteTol_qp, State.qp_setQp_self hlt]
    · rw [State.noteTol_qp, State.qp_setQp_other hne, State.mbGo_qp]
  case delete =>
    refine ⟨fun hout => ⟨exec_qpDelete_deleted h hidx hout, ?_⟩, fun hout => exec_qpDelete_busy h hidx hout⟩
    rw [State.noteTol_qp, State.qp_setQp_self (State.holdsIdx_lt hidx)]

end Sys2Proof.Machine
end

section
/-! SUPPORT. The ends of jobs on engines and lanes (R66, R104, R141, R166 to R168, R172, R206, R254): what each event does to a
unit that runs a job, and to one that runs none. -/

namespace Sys2Proof.Machine

variable {s : State} {c : UnitClass} {n seq num : Nat} {it : Item} {st : Step} {res : JobResult}

/-! ## The job of a unit -/

theorem State.item?_seq (h : s.item? seq = some it) : it.seq = seq := by
  simpa using List.find?_some h

theorem Item.step?_num (h : it.step? num = some st) : st.num = num := by
  simpa using List.find?_some h

/-- The item and the step of a job are found again by their own numbers. -/
theorem State.found_of_jobOf (h : s.jobOf c n = some (it, st)) :
    s.item? it.seq = some it ∧ it.step? st.num = some st := by
  unfold State.jobOf at h
  split at h
  case h_1 => cases h
  case h_2 seq num hjob =>
    split at h
    case h_1 => cases h
    case h_2 it' hit =>
      split at h
      case h_2 => cases h
      case h_1 st' hst =>
        split at h
        case isFalse => cases h
        case isTrue =>
          cases h
          rw [State.item?_seq hit, Item.step?_num hst]
          exact ⟨hit, hst⟩

theorem State.jobOf_of_runningJob (h : s.runningJob c n = some (it, st)) : s.jobOf c n = some (it, st) := by
  unfold State.runningJob at h
  split at h
  case h_2 => cases h
  case h_1 hjob =>
    split at h
    case isFalse => cases h
    case isTrue => exact hjob.trans h

/-! ## Staging sends nothing (R98, R168) -/

@[simp] theorem State.beginScrub_outbox (stopped : Bool) : (s.beginScrub c n stopped).outbox = s.outbox := rfl

theorem State.outbox_foldl {α : Type} {g : State → α → State} (hg : ∀ t x, (g t x).outbox = t.outbox) (l : List α) :
    (l.foldl g s).outbox = s.outbox := by
  induction l generalizing s with
  | nil => rfl
  | cons x l ih => rw [List.foldl_cons, ih, hg]

@[simp] theorem State.sealOuts_outbox : (s.sealOuts seq st res).outbox = s.outbox := by
  unfold State.sealOuts
  extract_lets x
  split
  · rfl
  split
  · split <;> rfl
  · refine State.outbox_foldl (fun t o => ?_) _
    split <;> rfl

/-- A job that ends before its due tick is over is staged with its result (R141, R168, R206). -/
theorem State.stageJob_intime (hj : s.runningJob c n = some (it, st)) (ht : st.overdue s.now = false) :
    s.stageJob c n it st res = ((s.sealOuts it.seq st (checkNewKey it.fn st res)).setItem (it.setStep { st with
      phase := .staged, res := some (checkNewKey it.fn st res)
      sealBad := (checkNewKey it.fn st res).status == .deviceFault })).beginScrub c n false := by
  obtain ⟨hit, hst⟩ := State.found_of_jobOf (State.jobOf_of_runningJob hj)
  simp [State.stageJob, ht, hit, hst]

/-! ## The rows on a unit that runs no job -/

theorem exec_jobEvent_idle (hu : unitOk c n = true) (hj : s.runningJob c n = none) {x : Instr}
    (hx : x ∈ [Instr.stageEnd c n res, .publicEnd c n res, .fragmentServiceEnd c n res, .fail c n,
      .hostReadAllowanceExpire c n, .laneReadAllowanceExpire c n]) : exec x s = .next s := by
  have hlate : s.readsLate c n = s := by simp only [State.readsLate, hj]
  simp only [List.mem_cons, List.not_mem_nil, or_false] at hx
  rcases hx with rfl | rfl | rfl | rfl | rfl | rfl
  · change execStageEnd c n res s = _; simp [execStageEnd, hu, hj]
  · change execPublicEnd c n res s = _; simp [execPublicEnd, hu, hj]
  · change execFragmentServiceEnd c n res s = _; simp [execFragmentServiceEnd, hu, hj]
  · change execFail c n s = _; simp [execFail, hu, hj]
  · change execHostReadAllowanceExpire c n s = _; simp [execHostReadAllowanceExpire, hu, hlate]
  · change execLaneReadAllowanceExpire c n s = _; simp [execLaneReadAllowanceExpire, hu, hlate]

/-! ## The rows on a unit that runs a job -/

section
variable (hu : unitOk c n = true) (hj : s.runningJob c n = some (it, st))
include hu hj

theorem exec_stageEnd_running (res : JobResult) : exec (.stageEnd c n res) s = .next (
    if st.secret && !st.isService && jobEnds (s.unseals it.seq st) st res then s.stageJob c n it st res else s) := by
  change execStageEnd c n res s = _
  simp only [execStageEnd, hu, hj, Bool.not_true, Bool.false_eq_true, if_false]

theorem exec_publicEnd_running (res : JobResult) : exec (.publicEnd c n res) s = .next (
    if !st.secret && !st.isService && jobEnds (s.unseals it.seq st) st res then
      if res.status = .deviceFault then (s.setItem (it.setStep { st with
        phase := .scrub, res := some res, stop := some .overrun })).unsealFail.beginScrub c n true
      else (s.endPublic it st res).beginScrub c n false
    else s) := by
  change execPublicEnd c n res s = _
  simp only [execPublicEnd, hu, hj, Bool.not_true, Bool.false_eq_true, if_false]

theorem exec_fragmentServiceEnd_running (res : JobResult) : exec (.fragmentServiceEnd c n res) s = .next (
    if st.isLane && serviceEnds (s.unseals it.seq st) st (!st.isService || st.lastSvc) res then s.endService c n it st res
    else s) := by
  change execFragmentServiceEnd c n res s = _
  simp only [execFragmentServiceEnd, hu, hj, Bool.not_true, Bool.false_eq_true, if_false]

theorem exec_fail_running : exec (.fail c n) s = .next (if st.isLane then s else s.invarFail c n it st) := by
  change execFail c n s = _
  simp only [execFail, hu, hj, Bool.not_true, Bool.false_eq_true, if_false]

omit hu in
theorem State.readsLate_running : s.readsLate c n =
    if st.secret && st.readsHost && (c.isLane || st.allowanceOver s.now) then
      ((s.setItem (it.setStep { st with
        phase := .staged, res := some { status := .badDescriptor, reason := .hostReadFail } })).fnEvent it.fn evReadFail).beginScrub
          c n true
    else s := by
  simp only [State.readsLate, hj]

end

/-- The allowance of an engine's job and that of a lane's are one event, each on units of its own kind (R166, R254). -/
theorem exec_allowanceExpire (hu : unitOk c n = true) {k : Instr × Bool}
    (hk : k ∈ [(Instr.hostReadAllowanceExpire c n, false), (.laneReadAllowanceExpire c n, true)]) :
    exec k.1 s = .next (if k.2 = c.isLane then s.readsLate c n else s) := by
  simp only [List.mem_cons, List.not_mem_nil, or_false] at hk
  rcases hk with rfl | rfl
  · change execHostReadAllowanceExpire c n s = _
    cases hl : c.isLane <;> simp [execHostReadAllowanceExpire, hu, hl]
  · change execLaneReadAllowanceExpire c n s = _
    cases hl : c.isLane <;> simp [execLaneReadAllowanceExpire, hu, hl]

/-- A service ends only with an end of its opcode. -/
theorem serviceEnds_of_not_jobEnds {u last : Bool} (h : jobEnds u st res = false) : serviceEnds u st last res = false := by
  simp [serviceEnds, h]

/-- A public service before the item's last goes on with the item (R86, R104, R253). -/
theorem State.endService_continues (hsec : st.secret = false) (hst : res.status ≠ .deviceFault) (hsvc : st.isService = true)
    (hlast : st.lastSvc = false) :
    let a := (s.sealContext it.seq st).chargePublic it st
    s.endService c n it st res = (a.1.continueItem it a.2).beginScrub c n false := by
  simp only [State.endService, hsec, hst, hsvc, hlast, Bool.false_eq_true, if_false, Bool.not_false, Bool.and_self, if_true]

/-! ## O26 -/

/-- Settles O26: each clause is the equation of its row, with the condition of the clause put into the row's test. -/
theorem jobsEnd : Obligations.JobsEnd := by
  refine ⟨fun s c n res hu hj x hx => exec_jobEvent_idle hu hj hx, fun s c n it st hu hj => ?_⟩
  have hstage := exec_stageEnd_running hu hj
  have hpublic := exec_publicEnd_running hu hj
  have hservice := exec_fragmentServiceEnd_running hu hj
  refine ⟨fun res hsec hsvc hend => ?secret, fun res hsec hsvc hend => ?publicJob, fun res hend => ?noEnd,
    fun res hlane hend => ?service, fun res => ⟨?notSecret, ?notPublic, ?notService⟩, fun hlane => ?failLane,
    fun hlane => ?failEngine, fun k hk hkind hsec hreads hover => ?late, fun k hk hno => ?notLate⟩
  case secret =>
    refine ⟨?_, fun ht => ⟨State.stageJob_intime hj ht, ?_⟩⟩
    · simp [hstage, hsec, hsvc, hend]
    · rw [State.stageJob_intime hj ht]
      simp
  case publicJob =>
    refine ⟨fun hst => ?_, fun hst => ?_⟩
    · simp [hpublic, hsec, hsvc, hend, hst]
    · simp [hpublic, hsec, hsvc, hend, hst]
  case noEnd => simp [hstage, hpublic, hservice, hend, serviceEnds_of_not_jobEnds hend]
  case service =>
    refine ⟨?_, fun hsec hst hsvc hlast => State.endService_continues hsec hst hsvc hlast⟩
    rw [hservice, hlane, hend]
    rfl
  case notSecret => rintro (h | h) <;> simp [hstage, h]
  case notPublic => rintro (h | h) <;> simp [hpublic, h]
  case notService =>
    rintro (h | h)
    · simp [hservice, h]
    · rw [hservice, h, Bool.and_false]
      rfl
  case failLane => rw [exec_fail_running hu hj, if_pos hlane]
  case failEngine =>
    rw [exec_fail_running hu hj, hlane]
    rfl
  case late =>
    rw [exec_allowanceExpire hu hk, if_pos hkind, State.readsLate_running hj, hsec, hreads, hover]
    rfl
  case notLate =>
    rw [exec_allowanceExpire hu hk, State.readsLate_running hj]
    rcases hno with h | h | h | h
    · rw [if_neg h]
    · simp [h]
    · simp [h]
    · rw [h, Bool.and_false]
      simp

end Sys2Proof.Machine
end

section
/-! SUPPORT. Two tables that `State.tablesWf` leaves free may list a key twice: a function's MSI-X table and the generators. What is
read at the key is the first entry. A map that changes this entry into an unlisted one drops it (`tabMap`), and the second comes
forward. -/

namespace Sys2Proof.Machine

/-! ## O16 -/

/-- A device whose warm reset is due. The PF's MSI-X table lists vector 0 twice: the first entry is an unlisted one but for its PBA
bit, and the second has another address. -/
def vectorTwice : State :=
  { State.reset with
    fns := [(0, { msix := [(0, { pba := true }), (0, { addr := 5 })] })]
    lc := { State.reset.lc with schedWarm := some 0 }
    pwr := { State.reset.pwr with perst := false } }

theorem vectorTwice_meets : vectorTwice.up = true ∧ vectorTwice.due vectorTwice.lc.schedLc = false
    ∧ vectorTwice.due vectorTwice.lc.schedWarm = true ∧ vectorTwice.interrupted = none ∧ vectorTwice.lc.token = none
    ∧ vectorTwice.tablesWf := by
  unfold State.tablesWf
  decide +kernel

theorem vectorTwice_addr : ((vectorTwice.fn 0).vec 0).addr = 0 := by decide +kernel

/-- The reset clears the PBA bit (`FnRec.afterReset`), which drops the first entry. -/
theorem vectorTwice_addr_warm : (((vectorTwice.warm {}).fn 0).vec 0).addr = 5 := by decide +kernel

/-- Refutes O16: the hypothesis holds the table of functions to its canonical form and not the MSI-X table inside a function. In
`vectorTwice` the reset changes the address that vector 0 reads as from 0 to 5. -/
theorem not_warmResetKeeps : ¬ Obligations.WarmResetKeeps := by
  intro h
  obtain ⟨hup, hlc, hwarm, hint, htok, hwf⟩ := vectorTwice_meets
  obtain ⟨t, -, ht, -, -, -, -, -, -, -, -, -, -, -, -, -, -, -, hfn⟩ := h {} vectorTwice hup hlc hwarm hint htok hwf
  obtain ⟨-, -, hvec⟩ := hfn 0
  obtain ⟨haddr, -⟩ := hvec 0
  rw [ht, vectorTwice_addr, vectorTwice_addr_warm] at haddr
  exact absurd haddr (by decide)

/-! ## O55 -/

/-- An idle device in P0 at tick 0 with no idle time before P2. Its table of generators lists the first Zest twice: the first entry
is an unlisted one but for the tick since which it counts, and the second has another last reseed. -/
def generatorTwice : State :=
  { State.reset with
    eng := { State.reset.eng with gens := [(0, { since := 5 }), (0, { last := 5 })] }
    pwr := { State.reset.pwr with perst := false, idleP2 := 0 } }

theorem generatorTwice_wf : generatorTwice.tablesWf := by
  unfold State.tablesWf
  decide +kernel

/-- The device enters P2. -/
theorem generatorTwice_enters : (generatorTwice.up && !generatorTwice.scrapped && !generatorTwice.pwr.exiting && decide (2 ≤ 4)
    && decide (2 ≤ generatorTwice.target) && generatorTwice.idle
    && decide (generatorTwice.pwr.idleSince + generatorTwice.pwr.idleTime 2 ≤ generatorTwice.now)) = true := by
  decide +kernel

theorem generatorTwice_last : (generatorTwice.gen 0).last = 0 := rfl

/-- The clocks stop at tick 0 (`State.clockGens`), which drops the first entry. -/
theorem generatorTwice_last_entered {t : State} (h : exec .powerStateEnter generatorTwice = .next t) : (t.gen 0).last = 5 := by
  change execPowerStateEnter generatorTwice = _ at h
  injection h with h
  subst h
  decide +kernel

/-- Refutes O55: the hypothesis does not hold the table of generators to its canonical form. In `generatorTwice` the entry into P2
changes the last reseed that generator 0 reads as from 0 to 5. -/
theorem not_powerFollowsItsRules : ¬ Obligations.PowerFollowsItsRules := by
  intro h
  obtain ⟨henter, -⟩ := h generatorTwice generatorTwice_wf
  obtain ⟨t, ht, -, -, -, -, -, -, hnx, -⟩ := henter generatorTwice_enters
  obtain ⟨-, hlast⟩ := hnx rfl
  have h0 := hlast 0
  rw [generatorTwice_last, generatorTwice_last_entered ht] at h0
  exact absurd h0 (by decide)

end Sys2Proof.Machine
end

section
/-! SUPPORT. Uncorrected faults of engines and lanes (R120, R144, R145, R147, R393): which of them take effect, and what they do to
a unit. -/

namespace Sys2Proof.Machine

variable {s : State} {c : UnitClass} {n : Nat}

/-! ## A unit's record -/

@[simp] theorem State.cell_setCell_self (k : Cell) : (s.setCell c n k).cell c n = k := Tab.get_put_self _ _ _ _

@[simp] theorem State.cell_setSrc (m : Nat) (x : SrcRec) : (s.setSrc m x).cell c n = s.cell c n := rfl

/-- A unit in service that is taken out for a source: it leaves service and WAITWORK (R393). -/
theorem State.takeUnits_cell (m : Nat) (h : (s.cell c n).inService = true) : (s.takeUnits m c [n]).cell c n
    = { s.cell c n with inService := false, outFault := true, waiting := none } := by
  simp [State.takeUnits, h]

/-- Without a job the fault counts, the unit scrubs and leaves service, and its source is raised (R145, R147, R393). -/
theorem State.unitFault_noJob (h : s.jobOf c n = none) (detail : Nat) : s.unitFault c n detail
    = ((((s.setCell c n { s.cell c n with uncorr := satSucc (s.cell c n).uncorr }).beginScrub c n true).takeUnits
        (srcUncorr c n) c [n]).raise (srcUncorr c n) n detail).unitGone c n := by
  simp only [State.unitFault, h, State.raise]

/-! ## The rows -/

section
variable (hu : unitOk c n = true) {kind : UnitFault} (detail : BitVec 16)
include hu

theorem exec_uncorrectedFault_misfit (hf : faultFits c kind = false) :
    exec (.uncorrectedFault c n kind detail) s = .next s := by
  change execUncorrectedFault c n kind detail s = _
  simp [execUncorrectedFault, hu, hf]

theorem exec_uncorrectedFault_fits (hup : s.up = true) (hf : faultFits c kind = true) :
    exec (.uncorrectedFault c n kind detail) s = .next (
      if (s.cell c n).inService || (s.cell c n).job.isSome || (s.cell c n).scrubbing then s.unitFault c n detail.toNat
      else s) := by
  change execUncorrectedFault c n kind detail s = _
  simp only [execUncorrectedFault, hu, hup, hf, Bool.not_true, Bool.false_eq_true, if_false, Bool.true_and]

omit detail in
theorem exec_safePointTimeout_eq : exec (.safePointTimeout c n) s = .next (
    if (s.cell c n).job.isSome && !(s.cell c n).scrubbing && !c.isLane then s.unitFault c n 0 else s) := by
  change execSafePointTimeout c n s = _
  simp only [execSafePointTimeout, hu, Bool.not_true, Bool.false_eq_true, if_false]

end

/-! ## O27 -/

/-- Settles O27: each row by its equation, with the condition of the clause put into the row's test. -/
theorem uncorrectedFaultsTakeUnits : Obligations.UncorrectedFaultsTakeUnits := by
  intro s c n hu
  refine ⟨fun kind detail hup hf => ⟨fun hworks => ?works, fun hin hjob hscrub => ?gone,
      fun hjob => State.unitFault_noJob hjob _, fun k => ?cell⟩,
    fun kind detail hf => exec_uncorrectedFault_misfit hu detail hf, fun hjob hscrub hlane => ?late, fun h => ?notLate⟩
  case works =>
    rw [exec_uncorrectedFault_fits hu detail hup hf, if_pos]
    simpa only [Bool.or_eq_true, or_assoc] using hworks
  case gone => simp [exec_uncorrectedFault_fits hu detail hup hf, hin, hjob, hscrub]
  case cell =>
    rw [State.takeUnits_cell _ (by simp), State.cell_setCell_self]
  case late => simp [exec_safePointTimeout_eq hu, hjob, hscrub, hlane]
  case notLate =>
    rw [exec_safePointTimeout_eq hu, if_neg]
    rcases h with h | h | h <;> simp [h]

end Sys2Proof.Machine
end

section
/-! SUPPORT. The posting ports of the lane groups, the coalescing timers and the stored operating seconds (R114, R255, R256, R411). -/

namespace Sys2Proof.Machine

variable {s : State} {it : Item} {st : Step} {g : Fin 8}

/-! ## Writes into host memory leave the device as it is -/

/-- Two states that differ in what was sent and in the free values that were read. -/
def State.SentFrom (s t : State) : Prop := t = { s with outbox := t.outbox, free := t.free }

theorem State.SentFrom.trans {t u : State} (h : s.SentFrom t) (k : t.SentFrom u) : s.SentFrom u := by
  unfold State.SentFrom at h k ⊢
  rw [k, h]

/-- A segment is written where Bus Master Enable lets it (R37). -/
theorem State.SentFrom.emit (b : Bool) (o : Out) (n : Nat) : s.SentFrom ((if b then s.emit o else s).draw n) := by
  cases b <;> rfl

theorem State.writeFree_sent (f : Nat) (l : List (QWord × Nat)) : s.SentFrom (s.writeFree f l) := by
  induction l generalizing s with
  | nil => rfl
  | cons x l ih => exact (State.SentFrom.emit _ _ _).trans ih

theorem State.writeZeros_sent (f : Nat) (l : List (QWord × Nat)) : s.SentFrom (s.writeZeros f l) := by
  induction l generalizing s with
  | nil => rfl
  | cons x l ih => exact (State.SentFrom.emit _ _ 0).trans ih

theorem State.writePart_sent (done n : Nat) (zero : Bool) : s.SentFrom (s.writePart it st done n zero) := by
  unfold State.writePart
  cases zero
  · exact State.writeFree_sent _ _
  · exact State.writeZeros_sent _ _

/-! ## The port of a lane group -/

theorem Item.step?_single (h : it.steps = [st]) : it.step? st.num = some st := by simp [Item.step?, h]

theorem State.item?_single (h : s.orc.items = [it]) : s.item? it.seq = some it := by simp [State.item?, h]

/-- The only step of the only item, put back changed. -/
theorem State.setItem_single (hi : s.orc.items = [it]) (hs : it.steps = [st]) {x : Step} (hx : x.num = st.num) :
    (s.setItem (it.setStep x)).orc.items = [{ it with steps := [x] }] := by
  simp [State.setItem, Item.setStep, hi, hs, hx]

/-- A step at the port after a tick in which it wrote some bytes, and not its last (R255). -/
def State.portRest (s : State) (g : Fin 8) (st : Step) : Step :=
  { st with portLeft := st.portLeft - s.portTake g st, portAt := some (if st.secret then s.now + 1 else s.now) }

/-- Bytes that the tick takes and that are not the last leave the step at the port, with the rest to write (R255). -/
theorem State.portOne_part (hi : s.orc.items = [it]) (hs : it.steps = [st]) (hp : st.phase = .port)
    (h0 : 0 < s.portTake g st) (hl : s.portTake g st < st.portLeft) {a : Nat} (ha : st.portAt = some a) (hn : a ≤ s.now) :
    ∃ t : State, s.portOne g it.seq st.num = t.setItem (it.setStep (s.portRest g st))
      ∧ t = { s with outbox := t.outbox, free := t.free, orc := { s.orc with portUsed := t.orc.portUsed } } := by
  have hleft : st.portLeft - s.portTake g st ≠ 0 := by omega
  let total := if st.zeroing && (st.res.getD {}).status != .invalidScrubbed then st.written else st.outBytes
  let w := s.writePart it st (total - st.portLeft) (s.portTake g st) st.zeroing
  refine ⟨if st.portOwn s.now then w else w.portWrote g.val (s.portTake g st), ?_, ?_⟩
  · simp [State.portOne, State.portRest, State.item?_single hi, Item.step?_single hs, hp, h0, ha, hn, hleft, w, total]
  · have hw : s.SentFrom w := State.writePart_sent _ _ _
    split <;> rw [hw]
    rfl

/-- A group's port finds the one step that writes through it. -/
theorem exec_portWriteTick_single (hi : s.orc.items = [it]) (hs : it.steps = [st]) (hp : st.phase = .port)
    (hc : st.entry.cls = groupClass g) (hr : st.region = groupRegion g) :
    exec (.portWriteTick g) s = .next (s.portOne g it.seq st.num) := by
  change execPortWriteTick g s = _
  simp [execPortWriteTick, hi, hs, hp, hc, hr]

theorem exec_portWriteTick_none (h : ∀ it ∈ s.orc.items, ∀ st ∈ it.steps, st.phase ≠ .port) :
    exec (.portWriteTick g) s = .next s := by
  have hnone : ∀ (l : List Item) (t : State), (∀ it ∈ l, ∀ st ∈ it.steps, st.phase ≠ .port) →
      l.foldl (fun a it => (it.steps.filter (fun st =>
        st.phase == .port && st.entry.cls == groupClass g && st.region == groupRegion g)).foldl
          (fun b st => b.portOne g it.seq st.num) a) t = t := by
    intro l
    induction l with
    | nil => intros; rfl
    | cons it l ih =>
      intro t hl
      have hf : it.steps.filter (fun st =>
          st.phase == .port && st.entry.cls == groupClass g && st.region == groupRegion g) = [] := by
        rw [List.filter_eq_nil_iff]
        intro st hst
        simp [hl it List.mem_cons_self st hst]
      rw [List.foldl_cons, hf]
      exact ih t (fun x hx => hl x (List.mem_cons_of_mem _ hx))
  exact congrArg _ (hnone _ s h)

/-! ## Timers -/

theorem exec_coalesceTimer_eq (fn : Fin 1024) (q : Nat) : exec (.coalesceTimer fn q) s = .next (
    if (s.qp fn.val q).timeDue s.now then
      (s.setQp fn.val q { s.qp fn.val q with unsig := 0 }).askMsg fn.val (s.qp fn.val q).vector
    else s) := rfl

/-- A message that is asked for waits once (R114). -/
theorem State.askMsg_eq (f v : Nat) : s.askMsg f v = { s with orc := { s.orc with
    msgs := if s.orc.msgs.contains (f, v) then s.orc.msgs else s.orc.msgs ++ [(f, v)] } } := by
  unfold State.askMsg
  split <;> rfl

theorem exec_opSecStore_eq : exec .opSecStore s = .next (
    if s.pwr.main && decide (s.log.opStored + 60 ≤ s.log.opSec) then { s with log := { s.log with opStored := s.log.opSec } }
    else s) := rfl

/-! ## O30 -/

/-- Settles O30: the port by the one step that it finds, the timers by the equations of their rows. -/
theorem portsAndTimers : Obligations.PortsAndTimers := by
  intro s
  refine ⟨fun g it st hi hs hp hc hr h0 hl a ha hn => ?part, fun g h => exec_portWriteTick_none h, fun g => rfl,
    fun fn q hq => ⟨fun h => ?due, fun h => ?notDue⟩, fun hmain h60 => ?store, fun h => ?keep⟩
  case part =>
    obtain ⟨t, ht, hkeep⟩ := State.portOne_part hi hs hp h0 hl ha hn
    have hti : t.orc.items = [it] := by rw [hkeep]; exact hi
    refine ⟨_, (exec_portWriteTick_single hi hs hp hc hr).trans (congrArg _ ht), ?_, ?_, ?_, ?_, ?_⟩
    · exact State.setItem_single hti hs rfl
    all_goals rw [hkeep]; rfl
  case due =>
    rw [exec_coalesceTimer_eq, if_pos h, State.askMsg_eq]
    simp [State.setQp, hq, qpKey]
  case notDue => rw [exec_coalesceTimer_eq, h, if_neg Bool.false_ne_true]
  case store => simp [exec_opSecStore_eq, hmain, h60]
  case keep =>
    rw [exec_opSecStore_eq, if_neg]
    rcases h with h | h
    · simp [h]
    · simp [Nat.not_le.mpr h]

end Sys2Proof.Machine
end

section
/-! SUPPORT. A drain re-places the work of its region, and what it finds nowhere to go may end (R90, R119). An end that posts without
Bus Master Enable raises source 6, and a source at ZEROISE ends in a warm reset (R37, R380, R395). -/

namespace Sys2Proof.Machine

/-! ## O41 -/

/-- A step of a punnet that waits to be re-run, placed on region 0. -/
def strandedStep : Step :=
  { entry := { cls := .pip, env := 1, families := 1, outs := [] }, phase := .placed, lost := some 0 }

/-- A punnet of family 1 that failed in tick 0 and is held by this step alone. -/
def strandedItem : Item :=
  { seq := 1, fn := 0, q := 0, qpn := 1, acc := 0, punnet := true, steps := [strandedStep], family := some 1
    fail := some { st := .regionLost } }

/-- Region 0 is in service with family 0, so that no region takes the punnet; the PF has Bus Master Enable 0, and source 6 acts by
ZEROISE. -/
def stranded : State :=
  { State.reset with
    orc := { State.reset.orc with tick := 5, regions := [{ inService := true }, {}, {}, {}], items := [strandedItem] }
    flt := { State.reset.flt with srcs := [(6, { action := some 4 })] }
    pwr := { State.reset.pwr with perst := false } }

/-- A REGION_RELOAD of region 0. -/
def strandedReload : MbReq := { fn := 0, len := 32, words := [0, 0, 100, 0] }

/-- The drain ends the punnet, its completion is lost, and the warm reset that source 6 asks for ends the reload. -/
theorem stranded_startReload_idle : (stranded.startReload strandedReload false none).mp.rlBusy = false := by decide +kernel

/-- Refutes O41: the clause on what the start of a reload leaves holds no state out. The reload of `stranded` begins with its drain,
which raises a fault whose warm reset ends the reload, so that none is in progress. -/
theorem not_regionsByCommand : ¬ Obligations.RegionsByCommand := by
  intro h
  obtain ⟨-, -, hstart, -, -⟩ := h stranded strandedReload
  obtain ⟨hbusy, -⟩ := hstart false none (by decide) rfl
  rw [stranded_startReload_idle] at hbusy
  exact absurd hbusy (by decide)

end Sys2Proof.Machine
end

section
/-! SUPPORT. The main domain goes down (R116, R434): what cold reset does to the work of each function and to the policies that wait,
and what it leaves for every event that takes the domain down. -/

namespace Sys2Proof.Machine

variable {s t u : State}

/-! ## The work of a function -/

/-- `t` is `s` without some of its work: what the vault's slots hold stays, and so does everything outside the functions, Orchard, the
engines, HBM and the vault. -/
structure State.LeavesWork (s t : State) : Prop where
  rest : t = { s with fns := t.fns, orc := t.orc, eng := t.eng, hbm := t.hbm, vlt := t.vlt }
  keys : s.keysKept t

theorem State.keysKept.trans (h : s.keysKept t) (k : t.keysKept u) : s.keysKept u := fun a n => by
  obtain ⟨hocc, hattr, hctr, huses⟩ := h a n
  obtain ⟨kocc, kattr, kctr, kuses⟩ := k a n
  exact ⟨kocc.trans hocc, kattr.trans hattr, kctr.trans hctr, kuses.trans huses⟩

theorem State.keysKept_of_slots (h : t.vlt.slots = s.vlt.slots) : s.keysKept t := fun a n => by simp [State.slot, h]

theorem State.LeavesWork.refl (s : State) : s.LeavesWork s := ⟨rfl, State.keysKept_of_slots rfl⟩

theorem State.LeavesWork.trans (h : s.LeavesWork t) (k : t.LeavesWork u) : s.LeavesWork u := by
  obtain ⟨hst, hkeys⟩ := h
  obtain ⟨kst, kkeys⟩ := k
  refine ⟨?_, hkeys.trans kkeys⟩
  rw [kst, hst]

theorem State.LeavesWork.foldl {α : Type} {f : State → α → State} (hf : ∀ a x, State.LeavesWork a (f a x)) (l : List α) :
    s.LeavesWork (l.foldl f s) := by
  induction l generalizing s with
  | nil => exact .refl s
  | cons x l ih => exact (hf s x).trans ih

/-- A slot is read again as it was written. -/
theorem State.slot_setSlot {a n : Nat} (x : VSlot) (b m : Nat) :
    (s.setSlot a n x).slot b m = if n < 8192 ∧ a = b ∧ n = m then x else s.slot b m := by
  unfold State.setSlot State.slot
  by_cases hn : n < 8192
  · by_cases hm : m < 8192
    · have hkey : slotKey a n = slotKey b m ↔ a = b ∧ n = m := by unfold slotKey; omega
      simp [hn, hm, Tab.get_put, hkey]
    · have : n ≠ m := by omega
      simp [hn, hm, this]
  · simp [hn]

/-- A reservation is no part of what a slot holds (R304). -/
theorem State.reserveKey_leaves (f : Nat) (h : QWord) (len : Nat) (on : Bool) : s.LeavesWork (s.reserveKey f h len on) := by
  unfold State.reserveKey
  split
  · refine ⟨by unfold State.setSlot; split <;> rfl, fun a n => ?_⟩
    rw [State.slot_setSlot]
    split
    case isTrue hsame =>
      obtain ⟨-, rfl, rfl⟩ := hsame
      exact ⟨rfl, rfl, rfl, rfl⟩
    case isFalse => exact ⟨rfl, rfl, rfl, rfl⟩
  · unfold State.setBlob
    split
    · exact ⟨rfl, State.keysKept_of_slots rfl⟩
    · exact .refl s

theorem State.reserveSteps_leaves (f : Nat) (on : Bool) (l : List Step) : s.LeavesWork (s.reserveSteps f on l) := by
  unfold State.reserveSteps
  refine State.LeavesWork.foldl ?_ l
  intro a st
  refine State.LeavesWork.foldl ?_ st.dests
  intro b x
  exact State.reserveKey_leaves f x.1 x.2 on

theorem State.dropItems_leaves (f : Nat) : s.LeavesWork (s.dropItems f) := by
  have hfree : s.LeavesWork ((s.orc.items.filter (fun it => it.fn == f && it.counted)).foldl
      (fun a it => a.reserveSteps f false it.steps) s) :=
    .foldl (fun _ (it : Item) => State.reserveSteps_leaves f false it.steps) _
  exact hfree.trans ⟨rfl, State.keysKept_of_slots rfl⟩

/-! ## The policies that wait -/

/-- `t` is `s` with other policies in force (R405, R430). -/
def State.OtherPolicies (s t : State) : Prop :=
  t = { s with
    flt := t.flt
    nv := { s.nv with spread := t.nv.spread }
    pwr := { s.pwr with deepest := t.pwr.deepest, idleP2 := t.pwr.idleP2, idleP3 := t.pwr.idleP3, idleP4 := t.pwr.idleP4
                        policyNext := t.pwr.policyNext } }

theorem State.OtherPolicies.trans (h : s.OtherPolicies t) (k : t.OtherPolicies u) : s.OtherPolicies u := by
  unfold State.OtherPolicies at h k ⊢
  rw [k, h]

theorem State.applyPower_policies (l : List Nat) : s.OtherPolicies (s.applyPower l) := by
  unfold State.applyPower
  split <;> rfl

theorem State.applyPolicies_policies : s.OtherPolicies s.applyPolicies := by
  have hfold : ∀ (l : List (List Nat)) (a : State), a.OtherPolicies (l.foldl State.applyPower a) := by
    intro l
    induction l with
    | nil => exact fun _ => rfl
    | cons x l ih => exact fun a => (State.applyPower_policies x).trans (ih _)
  have hstart : s.OtherPolicies { s with
      flt := { s.flt.policyNext.foldl Flt.applyPolicy s.flt with policyNext := [] }, pwr := { s.pwr with policyNext := [] } } := rfl
  exact hstart.trans (hfold _ _)

/-! ## Cold reset -/

/-- What a reset finds once the work is gone and the policies that waited are in force. -/
def State.workGone (s : State) : State := (s.fnList.foldl (fun a f => a.dropItems f) s).applyPolicies

/-- What cold reset takes from the state before it. -/
theorem State.workGone_eq : s.workGone = { s with
    fns := s.workGone.fns, orc := s.workGone.orc, eng := s.workGone.eng, hbm := s.workGone.hbm, vlt := s.workGone.vlt
    flt := s.workGone.flt
    nv := { s.nv with spread := s.workGone.nv.spread }
    pwr := { s.pwr with
      deepest := s.workGone.pwr.deepest, idleP2 := s.workGone.pwr.idleP2, idleP3 := s.workGone.pwr.idleP3
      idleP4 := s.workGone.pwr.idleP4, policyNext := s.workGone.pwr.policyNext } } := by
  obtain ⟨hdrop, -⟩ : s.LeavesWork (s.fnList.foldl (fun a f => a.dropItems f) s) :=
    .foldl (fun _ f => State.dropItems_leaves f) _
  have hpol : (s.fnList.foldl (fun a f => a.dropItems f) s).OtherPolicies s.workGone := State.applyPolicies_policies
  unfold State.OtherPolicies at hpol
  rw [hpol, hdrop]

theorem State.workGone_keys : s.keysKept s.workGone := by
  obtain ⟨-, hkeys⟩ : s.LeavesWork (s.fnList.foldl (fun a f => a.dropItems f) s) :=
    .foldl (fun _ f => State.dropItems_leaves f) _
  have hpol : (s.fnList.foldl (fun a f => a.dropItems f) s).OtherPolicies s.workGone := State.applyPolicies_policies
  unfold State.OtherPolicies at hpol
  exact hkeys.trans (State.keysKept_of_slots (by rw [hpol]))

/-- Cold reset takes the main domain down (R116, R434). -/
theorem State.coldClear_downTo : s.downTo s.coldClear := by
  have h := State.workGone_eq (s := s)
  refine ⟨rfl, rfl, rfl, rfl, ?_, rfl, rfl, rfl, rfl, rfl, State.workGone_keys, ?_⟩
  · change ({ buses := s.workGone.hif.buses, ari := s.workGone.hif.ari } : Hif) = _
    rw [h]
  · change s.workGone.mp.bankA = _ ∧ s.workGone.mp.bankB = _ ∧ s.workGone.lc.started = _ ∧ s.workGone.lc.complete = _
      ∧ s.workGone.lc.ikh = _ ∧ s.workGone.nv.fuses = _ ∧ s.workGone.nv.svnMin = _ ∧ s.workGone.nv.headerMwk = _
      ∧ s.workGone.log.mem = _ ∧ s.workGone.log.recs = _ ∧ s.workGone.outbox = _ ∧ s.workGone.pending = _ ∧ s.workGone.free = _
    rw [h]
    exact ⟨rfl, rfl, rfl, rfl, rfl, rfl, rfl, rfl, rfl, rfl, rfl, rfl, rfl⟩

@[simp] theorem State.coldClear_sb : s.coldClear.sb = s.sb.afterReset := by
  change s.workGone.sb.afterReset = _
  rw [State.workGone_eq]

@[simp] theorem State.coldClear_token : s.coldClear.lc.token = s.lc.token := by
  change s.workGone.lc.token = _
  rw [State.workGone_eq]

@[simp] theorem State.coldClear_retained : s.coldClear.lc.retained = s.lc.retained := by
  change s.workGone.lc.retained = _
  rw [State.workGone_eq]

@[simp] theorem State.coldClear_mwk : s.coldClear.nv.mwk = s.nv.mwk := by
  change s.workGone.nv.mwk = _
  rw [State.workGone_eq]

@[simp] theorem State.coldClear_standby : s.coldClear.pwr.standby = s.pwr.standby := by
  change s.workGone.pwr.standby = _
  rw [State.workGone_eq]

@[simp] theorem State.coldClear_rndCfg : s.coldClear.rnd.cfg = s.rnd.cfg := by
  change s.workGone.rnd.cfg = _
  rw [State.workGone_eq]

@[simp] theorem State.coldClear_ir : s.coldClear.tap.ir = s.tap.ir := by
  change s.workGone.tap.ir = _
  rw [State.workGone_eq]

/-! ## The rows that take the domain down -/

/-- Power lost on the main rails (R359, R361, R372). -/
theorem State.mainLost_down (keep : Nat → Bool) : s.downTo (s.mainLost keep) ∧ (s.mainLost keep).pwr.main = false
    ∧ (s.mainLost keep).sb = s.sb.afterReset ∧ (s.mainLost keep).lc.token = none ∧ (s.mainLost keep).lc.retained = 0
    ∧ (s.mainLost keep).nv.mwk = s.nv.mwk ∧ (s.mainLost keep).rnd.supply = if s.pwr.standby then 1 else 2 := by
  refine ⟨s.coldClear_downTo, rfl, State.coldClear_sb, rfl, rfl, State.coldClear_mwk, ?_⟩
  change s.coldClear.offSupply = _
  rw [State.offSupply, State.coldClear_standby]

theorem exec_perstNAssert_eq : exec .perstNAssert s = .next (if s.pwr.perst then s else { s.coldClear with
    pwr := { s.coldClear.pwr with perst := true }
    rnd := { s.coldClear.rnd with supply := if s.coldClear.pwr.main then 0 else s.coldClear.rnd.supply } }) := rfl

theorem exec_mainRailsOff_eq : exec .mainRailsOff s = .next (if s.pwr.main && s.pwr.perst then s.mainLost backupGroup else s) :=
  rfl

theorem exec_brownOut_eq : exec .brownOut s = .next (if s.pwr.main && !s.pwr.perst then s.mainLost backupGroup else s) := rfl

theorem exec_thermalShutdown_eq (sensor : Fin 5) (temp : Byte) : exec (.thermalShutdown sensor temp) s = .next (
    if s.up && s.pwr.state != 4 && decide (115 ≤ temp.toInt) then { s.coldClear with pwr := { s.coldClear.pwr with
      held := true, shutFlag := true, temps := s.coldClear.pwr.temps.set sensor.val temp } }
    else s) := rfl

/-- The three instructions that hold the main domain in reset, with their codes (R470, R471). -/
theorem exec_extest_eq {c : Instr × Byte}
    (h : c ∈ [(Instr.extest, (0x00 : Byte)), (Instr.extestPulse, 0x03), (Instr.extestTrain, 0x04)]) :
    exec c.1 s = .next (s.extestHold c.2) := by
  simp only [List.mem_cons, List.not_mem_nil, or_false] at h
  rcases h with rfl | rfl | rfl <;> rfl

theorem State.loadIr_eq {code : Byte} (hs : s.scrapped = false) :
    s.loadIr code = { s with tap := { s.tap with ir := code } } := by simp [State.loadIr, hs]

section
variable {code : Byte} (hmain : s.pwr.main = true)
include hmain

theorem State.extestHold_scrapped (hs : s.scrapped = true) : s.extestHold code = s.bypassed := by
  simp [State.extestHold, hmain, hs]

variable (hs : s.scrapped = false)
include hs

theorem State.extestHold_held (he : s.pwr.extest = true) : s.extestHold code = { s with tap := { s.tap with ir := code } } := by
  simp [State.extestHold, hmain, hs, State.loadIr_eq hs, he]

/-- A hold that begins is a cold reset, with the instruction loaded. -/
theorem State.extestHold_begins (he : s.pwr.extest = false) :
    let t := ({ s with tap := { s.tap with ir := code } }).coldClear
    s.extestHold code = { t with pwr := { t.pwr with extest := true } } := by
  simp [State.extestHold, hmain, hs, State.loadIr_eq hs, he]

end

/-! ## O13 -/

/-- Settles O13: every event is a cold reset, which takes the domain down, and what its own row adds. -/
theorem mainDomainGoesDown : Obligations.MainDomainGoesDown := by
  intro s
  have hdown := s.coldClear_downTo
  refine ⟨fun hp => ?perst, fun hm hp => ?rails, fun hm hp => ?brown, fun hv => ?vaon, fun sensor temp hup hst ht => ?hot,
    fun c hc => ⟨fun hm hs he => ?begins, fun hm hs he => ?held, fun hm hs => ?scrapped, fun hm => ?off⟩,
    fun hp => ?perst', fun h => ?rails', fun h => ?brown', fun hv => ?vaon', fun sensor temp h => ?hot'⟩
  case perst =>
    rw [exec_perstNAssert_eq, hp]
    exact ⟨_, rfl, hdown, rfl, State.coldClear_sb, State.coldClear_token, State.coldClear_retained, State.coldClear_mwk⟩
  case rails =>
    rw [exec_mainRailsOff_eq, hm, hp]
    exact ⟨_, rfl, State.mainLost_down _⟩
  case brown =>
    rw [exec_brownOut_eq, hm, hp]
    obtain ⟨hd, hmain, hsb, htok, hret, hmwk, -⟩ := s.mainLost_down backupGroup
    exact ⟨_, rfl, hd, hmain, hsb, htok, hret, hmwk⟩
  case vaon =>
    change ∃ t, execVaonLoss s = _ ∧ _
    rw [execVaonLoss, hv]
    exact ⟨_, rfl, hdown, rfl, rfl, rfl, rfl, rfl, rfl, rfl, State.coldClear_rndCfg⟩
  case hot =>
    rw [exec_thermalShutdown_eq, if_pos (by simp [hup, hst, ht])]
    exact ⟨_, rfl, hdown, rfl, rfl, rfl, State.coldClear_sb, State.coldClear_mwk⟩
  case begins =>
    rw [exec_extest_eq hc, State.extestHold_begins hm hs he]
    refine ⟨_, rfl, State.coldClear_downTo (s := { s with tap := { s.tap with ir := c.2 } }), rfl, State.coldClear_ir, ?_,
      State.coldClear_sb⟩
    simp [State.up]
  case held => rw [exec_extest_eq hc, State.extestHold_held hm hs he]
  case scrapped =>
    rw [exec_extest_eq hc, State.extestHold_scrapped hm hs]
    rfl
  case off => rw [exec_extest_eq hc, State.extestHold, hm]; rfl
  case perst' => rw [exec_perstNAssert_eq, if_pos hp]
  case rails' => rcases h with h | h <;> simp [exec_mainRailsOff_eq, h]
  case brown' => rcases h with h | h <;> simp [exec_brownOut_eq, h]
  case vaon' =>
    change execVaonLoss s = _
    rw [execVaonLoss, hv]
    rfl
  case hot' =>
    rw [exec_thermalShutdown_eq, if_neg]
    rcases h with h | h | h
    · simp [h]
    · simp [h]
    · simp [Int.not_le.mpr h]

end Sys2Proof.Machine
end

section
/-! SUPPORT. The control-store code (R143): its check is linear, so what a fetch makes of a word depends on the flipped bits alone,
and the columns of the 72 bits tell single flips from each other and from double ones. -/

namespace Sys2Proof.Machine

/-! ## Linearity -/

theorem bne_bne_bne_comm : ∀ a b c d : Bool, ((a != b) != (c != d)) = ((a != c) != (b != d)) := by decide

theorem xor_xor_xor_comm (a b c d : Nat) : a ^^^ b ^^^ (c ^^^ d) = a ^^^ c ^^^ (b ^^^ d) := by ac_rfl

theorem parity_xor (n : Nat) (p q : Nat → Bool) : parity n (fun j => p j ^^ q j) = (parity n p != parity n q) := by
  have key : ∀ (l : List Nat) (a b : Bool), l.foldl (fun x j => x != (p j != q j)) (a != b)
      = (l.foldl (fun x j => x != p j) a != l.foldl (fun x j => x != q j) b) := by
    intro l
    induction l with
    | nil => intros; rfl
    | cons j l ih =>
      intro a b
      rw [List.foldl_cons, bne_bne_bne_comm]
      exact ih _ _
  exact key (List.range n) false false

theorem eccSyndrome_xor (d e : BitVec 64) : eccSyndrome (d ^^^ e) = eccSyndrome d ^^^ eccSyndrome e := by
  have key : ∀ (l : List Nat) (a b : Nat),
      l.foldl (fun x j => if (d ^^^ e).getLsbD j then x ^^^ eccColumn j else x) (a ^^^ b)
      = l.foldl (fun x j => if d.getLsbD j then x ^^^ eccColumn j else x) a
        ^^^ l.foldl (fun x j => if e.getLsbD j then x ^^^ eccColumn j else x) b := by
    intro l
    induction l with
    | nil => intros; rfl
    | cons j l ih =>
      intro a b
      simp only [List.foldl_cons]
      rw [← ih]
      congr 1
      rw [BitVec.getLsbD_xor]
      cases d.getLsbD j <;> cases e.getLsbD j
      · rfl
      · exact Nat.xor_assoc _ _ _
      · change a ^^^ b ^^^ eccColumn j = a ^^^ eccColumn j ^^^ b
        ac_rfl
      · change a ^^^ b = a ^^^ eccColumn j ^^^ (b ^^^ eccColumn j)
        rw [xor_xor_xor_comm, Nat.xor_self, Nat.xor_zero]
  exact key (List.range 64) 0 0

/-- The syndrome and the parity of flips upon flips add up. -/
theorem eccDiff_xor (d e : BitVec 64) (c x : Byte) : eccDiff (d ^^^ e) (c ^^^ x)
    = ((eccDiff d c).1 ^^^ (eccDiff e x).1, (eccDiff d c).2 != (eccDiff e x).2) := by
  simp only [eccDiff, eccSyndrome_xor, BitVec.getLsbD_xor, BitVec.toNat_xor]
  refine Prod.ext ?_ ?_
  · have hmod : (c.toNat ^^^ x.toNat) % 128 = (c.toNat % 128) ^^^ (x.toNat % 128) := Nat.xor_mod_two_pow (n := 7)
    simp only [hmod]
    exact xor_xor_xor_comm _ _ _ _
  · simp only [parity_xor]
    exact bne_bne_bne_comm _ _ _ _

/-- Flips of data bits alone, of check bits alone, and of both. -/
theorem eccDiff_xor_data (d e : BitVec 64) : eccDiff (d ^^^ e) 0
    = ((eccDiff d 0).1 ^^^ (eccDiff e 0).1, (eccDiff d 0).2 != (eccDiff e 0).2) := by
  simpa only [BitVec.ofNat_eq_ofNat, BitVec.xor_zero] using eccDiff_xor d e 0 0

theorem eccDiff_xor_check (c x : Byte) : eccDiff 0 (c ^^^ x)
    = ((eccDiff 0 c).1 ^^^ (eccDiff 0 x).1, (eccDiff 0 c).2 != (eccDiff 0 x).2) := by
  simpa only [BitVec.ofNat_eq_ofNat, BitVec.xor_zero] using eccDiff_xor 0 0 c x

theorem eccDiff_split (d : BitVec 64) (x : Byte) : eccDiff d x
    = ((eccDiff d 0).1 ^^^ (eccDiff 0 x).1, (eccDiff d 0).2 != (eccDiff 0 x).2) := by
  simpa only [BitVec.ofNat_eq_ofNat, BitVec.xor_zero, BitVec.zero_xor] using eccDiff_xor d 0 0 x

/-! ## The check byte -/

theorem eccColumns_lt {x : Nat} (h : x ∈ eccColumns) : x < 128 := List.mem_range.mp (List.mem_filter.mp h).1

theorem eccColumns_length : eccColumns.length = 120 := by decide +kernel

theorem eccColumn_mem {j : Nat} (h : j < 64) : eccColumn j ∈ eccColumns.take 64 := by
  have hlen : j < eccColumns.length := by rw [eccColumns_length]; omega
  rw [eccColumn, List.getD_eq_getElem?_getD, List.getElem?_eq_getElem hlen, Option.getD_some]
  exact List.mem_take_iff_getElem.mpr ⟨j, by omega, rfl⟩

theorem eccColumn_lt {j : Nat} (h : j < 64) : eccColumn j < 128 := eccColumns_lt (List.mem_of_mem_take (eccColumn_mem h))

theorem eccColumn_inj {j k : Nat} (hj : j < 64) (hk : k < 64) (h : eccColumn j = eccColumn k) : j = k := by
  have hnodup : eccColumns.Nodup := List.nodup_range.filter _
  have hlen := eccColumns_length
  exact (List.getD_inj (by omega) (by omega) hnodup).mp h

theorem eccSyndrome_lt (d : BitVec 64) : eccSyndrome d < 128 := by
  have key : ∀ (l : List Nat) (a : Nat), (∀ j ∈ l, j < 64) → a < 2 ^ 7 →
      l.foldl (fun x j => if d.getLsbD j then x ^^^ eccColumn j else x) a < 2 ^ 7 := by
    intro l
    induction l with
    | nil => intro a _ ha; exact ha
    | cons j l ih =>
      intro a hl ha
      refine ih _ (fun k hk => hl k (List.mem_cons_of_mem _ hk)) ?_
      change (if d.getLsbD j then a ^^^ eccColumn j else a) < 2 ^ 7
      split
      · exact Nat.xor_lt_two_pow ha (eccColumn_lt (hl j List.mem_cons_self))
      · exact ha
  exact key _ 0 (fun j hj => List.mem_range.mp hj) (by decide)

/-- A byte of 7 check bits under a parity bit: what it reads as, and the parity of the whole. -/
theorem checkByte_reads : ∀ c < 128, ∀ p : Bool, (BitVec.ofNat 8 (c + 128 * flag p)).toNat % 128 = c
    ∧ parity 8 (fun j => (BitVec.ofNat 8 (c + 128 * flag p)).getLsbD j) = (parity 7 (fun j => c.testBit j) != p) := by
  decide +kernel

/-- A word with its own check byte has no syndrome and an even number of flips. -/
theorem eccDiff_check (d : BitVec 64) : eccDiff d (eccCheck d) = (0, false) := by
  let p := parity 64 (fun j => d.getLsbD j) != parity 7 (fun j => (eccSyndrome d).testBit j)
  obtain ⟨hmod, hpar⟩ := checkByte_reads _ (eccSyndrome_lt d) p
  change (eccSyndrome d ^^^ (BitVec.ofNat 8 (eccSyndrome d + 128 * flag p)).toNat % 128, parity 64 (fun j => d.getLsbD j)
    != parity 8 (fun j => (BitVec.ofNat 8 (eccSyndrome d + 128 * flag p)).getLsbD j)) = _
  have hcancel : ∀ a b : Bool, (a != (b != (a != b))) = false := by decide
  rw [hmod, hpar, Nat.xor_self, hcancel]

/-- A fetch sees the flips alone. -/
theorem eccDiff_flips (d e : BitVec 64) (x : Byte) : eccDiff (d ^^^ e) (eccCheck d ^^^ x) = eccDiff e x := by
  rw [eccDiff_xor, eccDiff_check, Nat.zero_xor, Bool.false_bne]

theorem eccDiff_flips_data (d e : BitVec 64) : eccDiff (d ^^^ e) (eccCheck d) = eccDiff e 0 := by
  simpa using eccDiff_flips d e 0

theorem eccDiff_flips_check (d : BitVec 64) (x : Byte) : eccDiff d (eccCheck d ^^^ x) = eccDiff 0 x := by
  simpa using eccDiff_flips d 0 x

/-! ## Flips of one bit and of two -/

/-- The column of a check bit; the parity bit has none. -/
def checkColumn (i : Nat) : Nat := if i < 7 then 2 ^ i else 0

theorem eccDiff_dataBit : ∀ j < 64, eccDiff ((1 : BitVec 64) <<< j) 0 = (eccColumn j, true) := by decide +kernel

theorem eccDiff_checkBit : ∀ i < 8, eccDiff 0 ((1 : Byte) <<< i) = (checkColumn i, true) := by decide +kernel

theorem checkColumn_inj : ∀ i < 8, ∀ k < 8, checkColumn i = checkColumn k → i = k := by decide

/-- No data bit has the column of a check bit. -/
theorem checkColumn_not_mem : ∀ i < 8, checkColumn i ∉ eccColumns := by decide +kernel

theorem eccColumn_ne_checkColumn {i j : Nat} (hj : j < 64) (hi : i < 8) : eccColumn j ≠ checkColumn i := fun h =>
  checkColumn_not_mem i hi (h ▸ List.mem_of_mem_take (eccColumn_mem hj))

theorem eccDiff_dataBits {j k : Nat} (hj : j < 64) (hk : k < 64) :
    eccDiff ((1 : BitVec 64) <<< j ^^^ (1 : BitVec 64) <<< k) 0 = (eccColumn j ^^^ eccColumn k, false) := by
  rw [eccDiff_xor_data, eccDiff_dataBit j hj, eccDiff_dataBit k hk, bne_self_eq_false]

theorem eccDiff_dataBit_checkBit {j i : Nat} (hj : j < 64) (hi : i < 8) :
    eccDiff ((1 : BitVec 64) <<< j) ((1 : Byte) <<< i) = (eccColumn j ^^^ checkColumn i, false) := by
  rw [eccDiff_split, eccDiff_dataBit j hj, eccDiff_checkBit i hi, bne_self_eq_false]

theorem eccDiff_checkBits {i k : Nat} (hi : i < 8) (hk : k < 8) :
    eccDiff 0 ((1 : Byte) <<< i ^^^ (1 : Byte) <<< k) = (checkColumn i ^^^ checkColumn k, false) := by
  rw [eccDiff_xor_check, eccDiff_checkBit i hi, eccDiff_checkBit k hk, bne_self_eq_false]

/-! ## What a fetch answers -/

section
variable {d : BitVec 64} {c : Byte} {x y : Nat}

theorem eccFetch_corrected (h : eccDiff d c = (x, true))
    (hx : x = 0 ∨ [1, 2, 4, 8, 16, 32, 64].contains x ∨ (eccColumns.take 64).contains x) : eccFetch d c = .corrected := by
  simp only [eccFetch, eccOut, h]
  rw [if_neg (by simp), if_pos ⟨trivial, hx⟩]

/-- An even number of flips whose columns do not cancel is detected. -/
theorem eccFetch_bad (h : eccDiff d c = (x ^^^ y, false)) (hxy : x ≠ y) : eccFetch d c = .bad := by
  have hne : x ^^^ y ≠ 0 := fun h0 => hxy (by
    rw [← Nat.xor_zero x, ← Nat.xor_self y, ← Nat.xor_assoc, h0, Nat.zero_xor])
  simp [eccFetch, eccOut, h, hne]

end

theorem eccFix_flipped (d : BitVec 64) {j : Nat} (hj : j < 64) : eccFix 64 (d ^^^ (1 : BitVec 64) <<< j) (eccCheck d) = d := by
  have hdiff : eccDiff (d ^^^ (1 : BitVec 64) <<< j) (eccCheck d) = (eccColumn j, true) := by
    rw [eccDiff_flips_data, eccDiff_dataBit j hj]
  have hfind : (List.range 64).find? (fun k => eccColumn k == eccColumn j) = some j :=
    List.find?_range_eq_some.mpr ⟨by simp, List.mem_range.mpr hj, fun k hk => by
      simpa using fun h => Nat.ne_of_lt hk (eccColumn_inj (Nat.lt_trans hk hj) hj h)⟩
  have hbit : BitVec.ofNat 64 (2 ^ j) = (1 : BitVec 64) <<< j := by
    simp [← BitVec.toNat_inj, BitVec.toNat_shiftLeft, Nat.shiftLeft_eq]
  simp only [eccFix, hdiff, hfind, hbit, Bool.not_true, Bool.false_eq_true, if_false]
  rw [BitVec.xor_assoc, BitVec.xor_self, BitVec.xor_zero]

/-! ## O48 -/

/-- Settles O48: the fetch sees the flips alone; a single one has the column of its bit, and two have columns that do not cancel. -/
theorem controlStoreCodeCorrects : Obligations.ControlStoreCodeCorrects := by
  intro d
  refine ⟨?clean, fun j hj => eccFix_flipped d hj, fun j hj => ?data, fun i hi => ?check, fun j k hjk hk => ?dataData,
    fun j i hj hi => ?dataCheck, fun i k hik hk => ?checkCheck⟩
  case clean => simp [eccFetch, eccOut, eccDiff_check]
  case data =>
    refine eccFetch_corrected ((eccDiff_flips_data _ _).trans (eccDiff_dataBit j hj)) (.inr (.inr ?_))
    exact List.contains_iff_mem.mpr (eccColumn_mem hj)
  case check =>
    have hcol : ∀ i < 8, checkColumn i = 0 ∨ [1, 2, 4, 8, 16, 32, 64].contains (checkColumn i) := by decide
    exact eccFetch_corrected ((eccDiff_flips_check _ _).trans (eccDiff_checkBit i hi)) ((hcol i hi).imp_right .inl)
  case dataData =>
    have hj := Nat.lt_trans hjk hk
    change eccFetch (d ^^^ _ ^^^ _) _ = _
    rw [BitVec.xor_assoc]
    exact eccFetch_bad ((eccDiff_flips_data _ _).trans (eccDiff_dataBits hj hk))
      fun h => Nat.ne_of_lt hjk (eccColumn_inj hj hk h)
  case dataCheck =>
    exact eccFetch_bad ((eccDiff_flips _ _ _).trans (eccDiff_dataBit_checkBit hj hi)) (eccColumn_ne_checkColumn hj hi)
  case checkCheck =>
    have hi := Nat.lt_trans hik hk
    change eccFetch d (_ ^^^ _ ^^^ _) = _
    rw [BitVec.xor_assoc]
    exact eccFetch_bad ((eccDiff_flips_check _ _).trans (eccDiff_checkBits hi hk))
      fun h => Nat.ne_of_lt hik (checkColumn_inj i hi k hk h)

end Sys2Proof.Machine
end

section
/-! SUPPORT. The test access port (R354, R363 to R366, R469 to R471): what each instruction loads and shifts out, and the accesses
of the debug port and of the memory test. -/

namespace Sys2Proof.Machine

variable {s : State} {code : Byte} {p : PortPlace} {wr : Bool} {v : QWord}

/-! ## Accesses to a place -/

/-- A read shifts out one word and uses a free value where the port has written none. -/
theorem State.portRead_eq (s : State) (key : Nat) : ∃ x : BitVec 128, s.portRead key = { s with
    outbox := s.outbox ++ [.tdo 64 x], free := s.free + if s.tap.mem.any (fun e => e.1 == key) then 0 else 1 } := by
  rw [← List.isSome_find?]
  unfold State.portRead
  cases s.tap.mem.find? (fun e => e.1 == key) with
  | some e => exact ⟨_, rfl⟩
  | none => exact ⟨_, rfl⟩

/-! ## The identification register -/

/-- The fixed bit, the part number and the version stand clear of the open manufacturer identity (R469). -/
theorem idcodeWord_fields : idcodeWord.getLsbD 0 = true ∧ idcodeWord.extractLsb' 12 16 = 0x9640
    ∧ idcodeWord.extractLsb' 28 4 = 0xB := by
  have hj : Config.jedecId.toNat < 2048 := Config.jedecId.isLt
  have hn : idcodeWord.toNat = 0xB * 2 ^ 28 + 0x9640 * 2 ^ 12 + Config.jedecId.toNat * 2 + 1 := by
    rw [idcodeWord, BitVec.toNat_ofNat]
    omega
  refine ⟨?_, BitVec.eq_of_toNat_eq ?_, BitVec.eq_of_toNat_eq ?_⟩
  · rw [← BitVec.testBit_toNat, Nat.testBit_zero, hn]
    simp only [decide_eq_true_eq]
    omega
  · rw [BitVec.extractLsb'_toNat, hn, Nat.shiftRight_eq_div_pow]
    change _ = 0x9640
    omega
  · rw [BitVec.extractLsb'_toNat, hn, Nat.shiftRight_eq_div_pow]
    change _ = 0xB
    omega

/-! ## The rows -/

theorem exec_idcode_eq (hm : s.pwr.main = true) :
    exec .idcode s = .next { s with tap := { s.tap with ir := 0x01 }, outbox := s.outbox ++ [.tdo 32 idcodeWord] } := by
  change execIdcode s = _
  simp [execIdcode, hm, State.loadIr, State.emit]

section
variable (hm : s.pwr.main = true)
include hm

theorem exec_bypass_eq (code : Byte) : exec (.bypass code) s = .next s.bypassed := by
  change execBypass code s = _
  rw [execBypass, if_pos hm]

/-- What a SCRAPPED device answers with the bypass bit alone (R354). -/
theorem exec_tap_scrapped (hs : s.scrapped = true) (b : List Bool) (tok : Token) (whole : Bool) {c : Instr}
    (h : c ∈ [Instr.samplePreload b, .lcToken tok whole, .lcNonceRd]) : exec c s = .next s.bypassed := by
  simp only [List.mem_cons, List.not_mem_nil, or_false] at h
  rcases h with rfl | rfl | rfl
  · change execSamplePreload b s = _
    simp [execSamplePreload, hm, hs]
  · change execLcToken tok whole s = _
    simp [execLcToken, hm, hs]
  · change execLcNonceRd s = _
    simp [execLcNonceRd, hm, hs]

theorem exec_samplePreload_eq (hs : s.scrapped = false) (b : List Bool) :
    exec (.samplePreload b) s = .next { s with tap := { s.tap with ir := 0x02, boundary := b } } := by
  change execSamplePreload b s = _
  simp [execSamplePreload, hm, hs, State.loadIr_eq hs]

theorem exec_lcToken_eq (hs : s.scrapped = false) (tok : Token) (whole : Bool) :
    exec (.lcToken tok whole) s = .next { s with
      tap := { s.tap with ir := 0x10 }, lc := if whole then { s.lc with token := some tok } else s.lc } := by
  change execLcToken tok whole s = _
  cases whole <;> simp [execLcToken, hm, hs, State.loadIr_eq hs]

theorem exec_lcNonceRd_eq (hs : s.scrapped = false) : exec .lcNonceRd s = .next { s with
    tap := { s.tap with ir := 0x11 }, outbox := s.outbox ++ [.tdo 128 s.lc.nonce] } := by
  change execLcNonceRd s = _
  simp [execLcNonceRd, hm, hs, State.loadIr_eq hs, State.emit]

theorem exec_debugPort_eq (hlo : 0x40 ≤ code.toNat) (hhi : code.toNat ≤ 0x5F) : exec (.debugPort code p wr v) s = .next (
    if s.up && s.lc.debugOpen && s.lcState != 3 && !s.scrapped then (s.loadIr code).portAccess p (portDebugged p) wr v
    else s.bypassed) := by
  change execDebugPort code p wr v s = _
  have hw : within code.toNat 0x40 0x5F = true := by simp [within, hlo, hhi]
  simp only [execDebugPort, hm, hw, Bool.not_true, Bool.or_self, Bool.false_eq_true, if_false]

theorem exec_memoryTest_eq (hlo : 0x60 ≤ code.toNat) (hhi : code.toNat ≤ 0x6F) : exec (.memoryTest code p wr v) s = .next (
    if s.up && s.lc.testModes && !s.scrapped then (s.loadIr code).portAccess p (portTested s.lcState p) wr v
    else s.bypassed) := by
  change execMemoryTest code p wr v s = _
  have hw : within code.toNat 0x60 0x6F = true := by simp [within, hlo, hhi]
  simp only [execMemoryTest, hm, hw, Bool.not_true, Bool.or_self, Bool.false_eq_true, if_false]

end

/-- With the main domain off the port does nothing. -/
theorem exec_tap_off (hm : s.pwr.main = false) {b : List Bool} {tok : Token} {whole : Bool} {c : Instr}
    (h : c ∈ [Instr.idcode, .samplePreload b, .lcToken tok whole, .lcNonceRd, .bypass code, .debugPort code p wr v,
      .memoryTest code p wr v]) : exec c s = .next s := by
  simp only [List.mem_cons, List.not_mem_nil, or_false] at h
  rcases h with rfl | rfl | rfl | rfl | rfl | rfl | rfl
  · change execIdcode s = _
    simp [execIdcode, hm]
  · change execSamplePreload b s = _
    simp [execSamplePreload, hm]
  · change execLcToken tok whole s = _
    simp [execLcToken, hm]
  · change execLcNonceRd s = _
    simp [execLcNonceRd, hm]
  · change execBypass code s = _
    simp [execBypass, hm]
  · change execDebugPort code p wr v s = _
    simp [execDebugPort, hm]
  · change execMemoryTest code p wr v s = _
    simp [execMemoryTest, hm]

/-! ## O60 -/

/-- Settles O60: each instruction by its equation; both ports by the one access to a place that they share. -/
theorem tapAnswers : Obligations.TapAnswers := by
  intro s
  refine ⟨fun hm => ?on, idcodeWord_fields, rfl, fun hm b tok whole code p wr d c hc => exec_tap_off hm hc⟩
  intro bypass writes reads port
  have hport : ∀ {open_ : Bool} {path c} {code : Byte},
      (∀ p wr v, exec (c p wr v) s = .next (if open_ then (s.loadIr code).portAccess p (path p) wr v else s.bypassed)) →
      (open_ = true → s.scrapped = false) → port open_ path c code := by
    intro open_ path c code hc hs p
    refine ⟨fun hshut wr v => ?shut, fun hopen => ?_⟩
    case shut =>
      rw [hc, hshut]
      rfl
    have ha : ∀ wr v, exec (c p wr v) s
        = .next (({ s with tap := { s.tap with ir := code } } : State).portAccess p (path p) wr v) := fun wr v => by
      rw [hc, if_pos hopen, State.loadIr_eq (hs hopen)]
    refine ⟨fun hp => ⟨fun v => ?write, ?read⟩, fun hp => ⟨fun v => ?noWrite, fun v => ?noRead⟩⟩
    case write => rw [ha, hp]; rfl
    case noWrite => rw [ha, hp]; rfl
    case noRead => rw [ha, hp]; rfl
    case read =>
      obtain ⟨x, hx⟩ := State.portRead_eq { s with tap := { s.tap with ir := code } } (portKey p)
      refine ⟨x, fun v => ?_⟩
      rw [ha, hp]
      exact congrArg _ hx
  refine ⟨exec_idcode_eq hm, fun code => exec_bypass_eq hm code, fun hs b tok whole => ?scrapped, fun hs => ?serves,
    fun code hlo hhi => ?debug, fun code hlo hhi => ?test, fun _ => rfl, fun _ _ => rfl, fun _ => rfl⟩
  case scrapped =>
    have h := fun c => exec_tap_scrapped hm hs b tok whole (c := c)
    exact ⟨h _ (by simp), h _ (by simp), h _ (by simp)⟩
  case serves => exact ⟨exec_samplePreload_eq hm hs, fun tok => exec_lcToken_eq hm hs tok true,
      fun tok => exec_lcToken_eq hm hs tok false, exec_lcNonceRd_eq hm hs⟩
  case debug => exact hport (fun p wr v => exec_debugPort_eq hm hlo hhi) (by simp)
  case test => exact hport (fun p wr v => exec_memoryTest_eq hm hlo hhi) (by simp)

end Sys2Proof.Machine
end

section
/-! SUPPORT. The patrols of the control stores and of HBM (R143, R149, R203, R227, R229, R392, R393): what a pass counts and raises,
and which units it takes out of service. -/

namespace Sys2Proof.Machine

variable {s : State} {c c' : UnitClass} {w : Nat}

/-! ## Units taken out of service -/

theorem State.cell_setCell (u : Nat) (x : Cell) :
    (s.setCell c u x).cell c' w = if cellKey c u = cellKey c' w then x else s.cell c' w := Tab.get_put _ _ _ _ _

/-- A unit in service after units were taken out served before and is none of them (R393). -/
theorem State.takeUnits_serving {n : Nat} {l : List Nat} (h : ((s.takeUnits n c l).cell c' w).inService = true) :
    (s.cell c' w).inService = true ∧ ∀ u ∈ l, cellKey c u ≠ cellKey c' w := by
  have key : ∀ (l : List Nat) (a : State), ((l.foldl (fun a u => a.setCell c u
      { a.cell c u with inService := false, outFault := true, waiting := none }) a).cell c' w).inService = true →
      (a.cell c' w).inService = true ∧ ∀ u ∈ l, cellKey c u ≠ cellKey c' w := by
    intro l
    induction l with
    | nil => exact fun a ha => ⟨ha, by simp⟩
    | cons u l ih =>
      intro a ha
      obtain ⟨hserves, hrest⟩ := ih _ ha
      rw [State.cell_setCell] at hserves
      split at hserves
      · exact absurd hserves Bool.false_ne_true
      · rename_i hu
        exact ⟨hserves, List.forall_mem_cons.mpr ⟨hu, hrest⟩⟩
  obtain ⟨hserves, htaken⟩ := key _ _ h
  refine ⟨hserves, fun u hu hkey => htaken u (List.mem_filter.mpr ⟨hu, ?_⟩) hkey⟩
  rw [State.cell, hkey]
  exact hserves

/-- Every unit that a run of takings names is out of service after it. -/
theorem State.takeUnits_foldl_out {α : Type} (n : Nat) (f : α → UnitClass × List Nat) (l : List α) {x : α} (hx : x ∈ l)
    (hw : w ∈ (f x).2) : ((l.foldl (fun a y => a.takeUnits n (f y).1 (f y).2) s).cell (f x).1 w).inService = false := by
  have key : ∀ (l : List α) (a : State) (c' : UnitClass),
      ((l.foldl (fun a y => a.takeUnits n (f y).1 (f y).2) a).cell c' w).inService = true →
      (a.cell c' w).inService = true ∧ ∀ y ∈ l, ∀ u ∈ (f y).2, cellKey (f y).1 u ≠ cellKey c' w := by
    intro l
    induction l with
    | nil => exact fun a c' ha => ⟨ha, by simp⟩
    | cons y l ih =>
      intro a c' ha
      obtain ⟨hserves, hrest⟩ := ih _ _ ha
      obtain ⟨hbefore, hy⟩ := State.takeUnits_serving hserves
      exact ⟨hbefore, List.forall_mem_cons.mpr ⟨hy, hrest⟩⟩
  rw [← Bool.not_eq_true]
  exact fun h => (key l s _ h).2 x hx w hw rfl

/-! ## Words put right -/

theorem State.countFixed_zero (k : Nat) : s.countFixed k 0 = s := rfl

theorem State.countFixed_cluster {k m : Nat} (hm : 0 < m) (hk : k < 16) : s.countFixed k m
    = (s.setCluster k { s.cluster k with corr := satAdd (s.cluster k).corr m }).raise
        (srcRegionOff (k / 4) (4 + k % 4)) 0xFF 0 := by
  rw [State.countFixed, if_neg (Nat.ne_of_gt hm), if_pos hk]

theorem State.countFixed_medlar {k m : Nat} (hm : 0 < m) (hk : 16 ≤ k) : s.countFixed k m
    = ({ s with eng := { s.eng with medCorr := satAdd s.eng.medCorr m } }).raise (srcRegionOff (k - 16) 28) 0xFF 0 := by
  rw [State.countFixed, if_neg (Nat.ne_of_gt hm), if_neg (Nat.not_lt.mpr hk)]
  rfl

/-! ## The rows -/

theorem exec_controlStorePatrol_idle (h : s.up = false ∨ s.mp.katDone = false) (store : Fin 20)
    (upsets : List (Nat × BitVec 288)) : exec (.controlStorePatrol store upsets) s = .next s := by
  change execControlStorePatrol store upsets s = _
  simp only [execControlStorePatrol]
  rw [if_pos]
  rcases h with h | h <;> simp [h]

theorem exec_hbmPatrol_eq (corr uncorr : List (Fin 64)) : exec (.hbmPatrol corr uncorr) s = .next (
    if s.up && s.hbm.trained && decide (s.pwr.state < 2) && s.hbm.lpbkDepth == 0 then
      uncorr.foldl (fun a p => a.raise (12 + p.val / 32) p.val 0)
        (corr.foldl (fun a p => a.raise (10 + p.val / 32) p.val 0) { s with hbm := { s.hbm with
          patrols := s.hbm.patrols + 1, corr := satAdd s.hbm.corr corr.length
          uncorr := satAdd s.hbm.uncorr uncorr.length } })
    else s) := rfl

/-! ## O49 -/

/-- Settles O49: a pass by the words that it leaves, whose units no later taking brings back; the HBM patrol by its equation. -/
theorem patrolsCountErrors : Obligations.PatrolsCountErrors := by
  intro s
  refine ⟨fun store upsets => ?store, fun corr uncorr hup ht hp hl => ?hbm, fun corr uncorr h => ?noHbm⟩
  case hbm => rw [exec_hbmPatrol_eq, if_pos (by simp [hup, ht, hp, hl])]
  case noHbm =>
    rw [exec_hbmPatrol_eq, if_neg]
    rcases h with h | h | h | h
    · simp [h]
    · simp [h]
    · simp [Nat.not_lt.mpr h]
    · rw [beq_false_of_ne h]
      simp
  case store =>
    intro k r src flips outs left n u
    refine ⟨fun hup hkat => ?runs, fun h => exec_controlStorePatrol_idle h _ _,
      fun m => ⟨State.countFixed_zero k, fun hm hk => ?cluster, fun hm hk => ?medlar⟩⟩
    case runs =>
      let v := left.foldl (fun a x => a.takeUnits src (storeUnits k x.1).1 (storeUnits k x.1).2) u
      have hrun : exec (.controlStorePatrol store upsets) s = .next (match left with
          | [] => u
          | e :: _ => ((v.raise src ((storeUnits k e.1).2.headD 0xFF) 0).checkDead r).rehome) := by
        exact congrArg Host.Outcome.next (if_neg (by simp [hup, hkat]))
      refine ⟨fun hleft => by rw [hrun, hleft], fun e l hleft => ?left⟩
      have hbad : exec (.controlStorePatrol store upsets) s
          = .next (((v.raise src ((storeUnits k e.1).2.headD 0xFF) 0).checkDead r).rehome) := by rw [hrun, hleft]
      have hout : ∀ x ∈ left, ∀ w ∈ (storeUnits k x.1).2, (v.cell (storeUnits k x.1).1 w).inService = false :=
        fun x hx w hw => State.takeUnits_foldl_out src (fun x : Nat × BitVec 288 => storeUnits k x.1) left hx hw
      exact ⟨hbad, hout⟩
    case cluster =>
      rw [State.countFixed_cluster hm hk]
      simp only [r, if_pos hk]
    case medlar =>
      rw [State.countFixed_medlar hm hk]
      simp only [r, if_neg (Nat.not_lt.mpr hk)]

end Sys2Proof.Machine
end

section
/-! SUPPORT. The Zest and blinding generators (R134, R135, R225), the RNG window (R324 to R326) and the raw tap (R329). -/

namespace Sys2Proof.Machine

variable {s : State} {medlar : Bool} {gen : Fin 16} {fn : Fin 1024} {v : Word}

/-! ## The generators -/

@[simp] theorem State.gen_setGen_self (k : Nat) (g : Gen) : (s.setGen k g).gen k = g := Tab.get_put_self _ _ _ _

theorem State.gen_setGen_other {k j : Nat} (h : j ≠ k) (g : Gen) : (s.setGen k g).gen j = s.gen j :=
  Tab.get_put_other _ _ _ h.symm

theorem State.selfClear_eq (n : Nat) : s.selfClear n = { s with flt := (s.selfClear n).flt } := by
  simp only [State.selfClear]
  split <;> rfl

/-- The end of a condition changes the collector alone (R398, R401). -/
theorem State.presentEnds_eq (n : Nat) : s.presentEnds n = { s with flt := (s.presentEnds n).flt } := by
  simp only [State.presentEnds]
  split
  · exact State.selfClear_eq n
  · rfl

/-- A reseed gives the generator its seed, and past its limit may end a condition of the collector (R134, R401). -/
theorem State.reseedGen_eq (medlar : Bool) (n : Nat) : s.reseedGen medlar n
    = { s.seedGen (genOf medlar n) (s.gen (genOf medlar n)).seeded with flt := (s.reseedGen medlar n).flt } := by
  simp only [State.reseedGen]
  split
  · exact State.presentEnds_eq _
  · rfl

theorem State.gen_reseedGen (medlar : Bool) (n j : Nat) : (s.reseedGen medlar n).gen j
    = (s.seedGen (genOf medlar n) (s.gen (genOf medlar n)).seeded).gen j := by
  rw [State.reseedGen_eq]
  rfl

theorem State.gen_seedGen_self {k : Nat} (hs : (s.gen k).seeded = true) : (s.seedGen k (s.gen k).seeded).gen k
    = { s.gen k with pastLimit := false, failing := false, pending := false, blocks := 0, since := s.now, last := s.now
                     seed := s.free, reseeds := (s.gen k).reseeds + 1 } := by
  change (s.setGen k _).gen k = _
  simp only [State.gen_setGen_self, hs, if_true]

theorem State.gen_seedGen_other {k j : Nat} (h : j ≠ k) (reseed : Bool) : (s.seedGen k reseed).gen j = s.gen j :=
  State.gen_setGen_other h _

/-! ## The rows of the generators -/

theorem exec_zestReseed_eq : exec (.zestReseed medlar gen) s = .next (
    if s.up && (s.gen (genOf medlar gen.val)).seeded && decide ((s.gen (genOf medlar gen.val)).last + 1000 ≤ s.now) then
      if s.drbgServes then s.reseedGen medlar gen.val
      else s.setGen (genOf medlar gen.val) { s.gen (genOf medlar gen.val) with pending := true, failing := true }
    else s) := by
  change execZestReseed medlar gen s = _
  simp only [execZestReseed]
  rw [← ite_not]
  simp [and_assoc]

/-- A generator that passes its limit, with the hit counted (R134, R135). -/
def State.pastLimit (s : State) (medlar : Bool) (n : Nat) : State :=
  let t := s.setGen (genOf medlar n) { s.gen (genOf medlar n) with
    pastLimit := true, hits := satSucc (s.gen (genOf medlar n)).hits }
  if medlar then t.setEng { t.eng with medHits := satSucc t.eng.medHits } else t

theorem exec_zestLimit_eq : exec (.zestLimit medlar gen) s = .next (
    if s.up && (s.gen (genOf medlar gen.val)).seeded && !(s.gen (genOf medlar gen.val)).pastLimit
        && decide ((s.gen (genOf medlar gen.val)).last + 10000 ≤ s.now) then
      ((s.pastLimit medlar gen.val).raiseB {} (genSrc medlar gen.val) 0xFF 0 true).holdForEntropy
    else s) := by
  change execZestLimit medlar gen s = _
  simp only [execZestLimit]
  rw [← ite_not]
  simp [and_assoc, State.pastLimit]

theorem State.pastLimit_eq (n : Nat) : s.pastLimit medlar n = { s with eng := (s.pastLimit medlar n).eng } := by
  cases medlar <;> rfl

theorem State.gen_pastLimit (n : Nat) : (s.pastLimit medlar n).gen (genOf medlar n)
    = { s.gen (genOf medlar n) with pastLimit := true, hits := satSucc (s.gen (genOf medlar n)).hits } := by
  cases medlar <;> exact State.gen_setGen_self _ _

theorem State.medHits_pastLimit (n : Nat) :
    (s.pastLimit medlar n).eng.medHits = if medlar then satSucc s.eng.medHits else s.eng.medHits := by
  cases medlar <;> rfl

/-! ## The RNG window -/

theorem exec_rngBufferRefill_eq : exec (.rngBufferRefill fn) s = .next (
    if s.rngFills fn.val && !s.rng.demand && decide ((s.fn fn.val).rngw.buf.length ≤ 32) then
      (s.setRngw fn.val { (s.fn fn.val).rngw with
        buf := (s.fn fn.val).rngw.buf ++ freeBytes s.free (64 - (s.fn fn.val).rngw.buf.length) }).draw
          (64 - (s.fn fn.val).rngw.buf.length)
    else s) := rfl

theorem freeBytes_length (at_ n : Nat) : (freeBytes at_ n).length = n := by simp [freeBytes]

theorem State.fn_draw (n f : Nat) : (s.draw n).fn f = s.fn f := rfl

theorem State.fn_setRngw_self (f : Nat) (w : RngWin) : ((s.setRngw f w).fn f).rngw = w :=
  congrArg FnRec.rngw (State.fn_setFn_self _)

/-! ## The raw tap -/

/-- A BAR4 write that takes effect on a window which the boot loader does not serve (R33, R344, R367). -/
theorem exec_rngRawCtrlWrite_eq (h : s.bar4Full = true) : exec (.rngRawCtrlWrite v) s = .next (
    if v.getLsbD 0 then
      if s.lcState ∈ [1, 2, 4] ∧ s.noneReady = true then
        ({ s with rng := { s.rng with rawSrc := v.extractLsb' 2 2, rawEn := true } }).refresh
      else s
    else if s.rng.rawEn then
      ({ s with rng := { s.rng with
          rawSrc := v.extractLsb' 2 2, rawEn := false, ready := false, drbgFailed := false, pool := 0, demand := false
          srcs := s.rng.srcs.map Src.rerun } }).refresh
    else { s with rng := { s.rng with rawSrc := v.extractLsb' 2 2 } }) := by
  simp only [State.bar4Full, State.bar4Writes, Bool.and_eq_true, Bool.not_eq_true'] at h
  obtain ⟨⟨⟨⟨hreach, hmse⟩, halarm⟩, hscrap⟩, hload⟩ := h
  change execRngRawCtrlWrite v s = _
  simp [execRngRawCtrlWrite, State.onBar4_apply hreach hmse halarm hscrap, State.rawCtrl, hload, or_assoc]

/-! ## O50 -/

/-- Settles O50: every row by its equation, with the condition of the clause put into the row's test. -/
theorem generatorsAndWindows : Obligations.GeneratorsAndWindows := by
  refine ⟨fun s medlar gen => ?gens, fun s => ⟨fun fn => ?window, fun v hfull => ?tap⟩⟩
  case gens =>
    intro k reseeds ends t
    refine ⟨fun hr hserves => ?served, fun hr hserves => ?pending, fun hr => ?early, fun he => ?inLimit, fun he => ?past⟩
    case served =>
      have hseeded : (s.gen k).seeded = true := by
        simp only [reseeds, Bool.and_eq_true] at hr
        obtain ⟨⟨-, hseeded⟩, -⟩ := hr
        exact hseeded
      refine ⟨?_, ?_, fun j hj => ?_, ?_⟩
      · rw [exec_zestReseed_eq, if_pos hr, if_pos hserves]
      · exact (State.gen_reseedGen ..).trans (State.gen_seedGen_self hseeded)
      · exact (State.gen_reseedGen ..).trans (State.gen_seedGen_other hj _)
      · simp only [t]
        rw [State.reseedGen_eq]
        rfl
    case pending => rw [exec_zestReseed_eq, if_pos hr, if_neg (Bool.eq_false_iff.mp hserves)]
    case early => rw [exec_zestReseed_eq, if_neg (Bool.eq_false_iff.mp hr)]
    case inLimit => rw [exec_zestLimit_eq, if_neg (Bool.eq_false_iff.mp he)]
    case past =>
      refine ⟨s.pastLimit medlar gen.val, ?_, State.pastLimit_eq _, State.gen_pastLimit _, State.medHits_pastLimit _⟩
      rw [exec_zestLimit_eq, if_pos he]
  case window =>
    intro fills
    refine ⟨fun hf => ⟨_, (exec_rngBufferRefill_eq).trans (by rw [if_pos hf]), ?_, ?_, fun g hg => ?_, rfl⟩, fun hf => ?_⟩
    · have hroom : (s.fn fn.val).rngw.buf.length ≤ 32 := by
        simp only [fills, Bool.and_eq_true, decide_eq_true_eq] at hf
        obtain ⟨-, hroom⟩ := hf
        exact hroom
      rw [State.fn_draw, State.fn_setRngw_self, List.length_append, freeBytes_length]
      omega
    · rw [State.fn_draw, State.fn_setRngw_self, List.take_left]
    · exact State.fn_setFn_other _ hg
    · rw [exec_rngBufferRefill_eq, if_neg (Bool.eq_false_iff.mp hf)]
  case tap =>
    refine ⟨fun hv hlc hr => ?opens, fun hv h => ?barred, fun hv he => ?closes, fun hv he => ?closed⟩
    case opens => rw [exec_rngRawCtrlWrite_eq hfull, if_pos hv, if_pos ⟨hlc, hr⟩]
    case barred =>
      rw [exec_rngRawCtrlWrite_eq hfull, if_pos hv, if_neg]
      rintro ⟨hlc, hr⟩
      rcases h with h | h
      · exact h hlc
      · exact Bool.false_ne_true (h.symm.trans hr)
    case closes => rw [exec_rngRawCtrlWrite_eq hfull, if_neg (Bool.eq_false_iff.mp hv), if_pos he]
    case closed => rw [exec_rngRawCtrlWrite_eq hfull, if_neg (Bool.eq_false_iff.mp hv), if_neg (Bool.eq_false_iff.mp he)]

end Sys2Proof.Machine
end

section
/-! SUPPORT. The Pulp tier, its reserves and the shared pool (R200, R209, R210, R213, R214): what PULP_SIZE, PULP_PUBLISH,
PULP_WITHDRAW and the background rebuild answer, and the entries they build and lose. -/

namespace Sys2Proof.Machine

variable {s : State} {r : MbReq}

/-! ## The answer of a command that runs -/

theorem State.mbRun_eq_of_mbTakes {code : Nat} {lens : List Nat} {masks : List QWord} {k : State → State × Reply}
    (h : s.mbTakes code r lens masks) :
    s.mbRun code r lens masks k = (k (s.mbGo r.fn.val)).1.answer code r (k (s.mbGo r.fn.val)).2 :=
  State.mbRun_of_mbTakes h rfl

theorem State.answer_ite {c : Prop} [Decidable c] {code : Nat} (p q : State × Reply) :
    (if c then p else q).1.answer code r (if c then p else q).2
      = if c then p.1.answer code r p.2 else q.1.answer code r q.2 := by
  split <;> rfl

/-! ## The entries of the pool (R209, R210, R213) -/

/-- A rebuild touches nothing of a published key but its entry. -/
theorem State.sharedBuild_with_entry (x : Shared) (a : QWord) (region : Fin 4) :
    ∃ o, (s.sharedBuild x a region).2 = { x with entry := o } := by
  simp only [State.sharedBuild]
  split
  case isTrue => split <;> exact ⟨_, rfl⟩
  case isFalse => exact ⟨_, rfl⟩

/-- In the HBM tier a rebuild always has room, and the entry carries the pool's epoch and the key's scheme. -/
theorem State.sharedBuild_hbm {x : Shared} (hx : x.onChip = false) (a : QWord) (region : Fin 4) :
    ∃ e, (s.sharedBuild x a region).2.entry = some e ∧ e.epoch = s.pulp.sharedEpoch ∧ e.scheme = attrScheme a := by
  simp only [State.sharedBuild, hx, Bool.false_eq_true, if_false]
  exact ⟨_, rfl, rfl, rfl⟩

theorem State.sharedLost_deleted {h : QWord} (hin : s.pulp.shared.any (fun x => x.handle == h) = true) :
    s.sharedLost h true = s.setPulp { s.pulp with
      sharedEpoch := s.pulp.sharedEpoch + 1, shared := s.pulp.shared.filter (fun x => x.handle != h) } :=
  if_pos hin

/-! ## PULP_SIZE (R200, R213) -/

/-- The three conditions of PULP_SIZE in the order it tries them; the first that does not hold gives the answer. -/
theorem exec_pulpSize_eq (h : s.mbTakes 0x0301 r [24] []) :
    let t := s.mbGo r.fn.val
    let u := t.setPulp { t.pulp with tier := r.w 0, resOn := r.w 1 / 64, resHbm := r.w 2 / 64 }
    exec (.pulpSize r) s = .next (
      if r.w 0 ≤ 32 ∧ r.w 1 ≤ 4096 ∧ r.w 1 % 64 = 0 ∧ r.w 2 ≤ 4096 ∧ r.w 2 % 64 = 0 then
        if r.w 1 + t.sumTen (·.pulpOn) ≤ 16384 ∧ r.w 2 + t.sumTen (·.pulpHbm) ≤ u.tierMib then
          if t.sharedKib true ≤ r.w 1 ∧ t.sharedKib false ≤ 1024 * r.w 2 then u.answer 0x0301 r .done
          else t.answer 0x0301 r (.detail 0x06)
        else t.answer 0x0301 r (.detail 0x05)
      else t.answer 0x0301 r (.bad .badRange .none)) := by
  change execPulpSize r s = _
  rw [execPulpSize, State.mbRun_eq_of_mbTakes h]
  simp only [← Nat.not_le, ne_eq, ← Classical.not_and_iff_not_or_not, ite_not, State.answer_ite]

/-! ## PULP_PUBLISH (R209, R213) -/

section
variable {a : QWord} {len : Nat} (h : s.mbTakes 0x0302 r [16] []) (hw : r.w 1 ≤ 1)
  (hkey : (s.mbGo r.fn.val).findKey 0 (r.words.getD 0 0) true false none = .attr a len)
include h hw hkey

theorem exec_pulpPublish_usage (hbad : (aShared a && publicTypes.contains (aType a)) = false) :
    exec (.pulpPublish r) s = .next ((s.mbGo r.fn.val).answer 0x0302 r (.bad .keyUsage .none)) := by
  change execPulpPublish r s = _
  rw [execPulpPublish, State.mbRun_eq_of_mbTakes h]
  simp only [if_neg (Nat.not_lt.mpr hw), hkey, hbad, Bool.not_false, if_true]

variable (hshared : aShared a = true) (hpublic : publicTypes.contains (aType a) = true)
  (hnew : (s.mbGo r.fn.val).isShared (r.words.getD 0 0) = false) (hchip : (r.w 1 == 0 && aType a == 0x29) = false)
include hshared hpublic hnew hchip

/-- A shared public key that is not in the pool, in a tier that holds its scheme: the room of the reserve decides. -/
theorem exec_pulpPublish_room :
    let t := s.mbGo r.fn.val
    let x : Shared := { handle := r.words.getD 0 0, kib := attrKib a, onChip := r.w 1 == 0, entry := none }
    exec (.pulpPublish r) s = .next (
      if (if r.w 1 == 0 then 64 * t.pulp.resOn else 65536 * t.pulp.resHbm) < t.sharedKib (r.w 1 == 0) + attrKib a then
        t.answer 0x0302 r (.detail 0x05)
      else (t.setPulp { t.pulp with shared := t.pulp.shared ++ [(t.sharedBuild x a 0).2] }).answer 0x0302 r .done) := by
  change execPulpPublish r s = _
  rw [execPulpPublish, State.mbRun_eq_of_mbTakes h]
  simp only [if_neg (Nat.not_lt.mpr hw), hkey, hshared, hpublic, hnew, hchip, Bool.and_self, Bool.not_true, Bool.false_eq_true,
    if_false, State.answer_ite]

end

/-! ## PULP_WITHDRAW (R213, R214, R216) -/

theorem exec_pulpWithdraw_eq (h : s.mbTakes 0x0303 r [8] []) :
    let t := s.mbGo r.fn.val
    let k := r.words.getD 0 0
    exec (.pulpWithdraw r) s = .next (
      if t.pulp.shared.any (fun x => x.handle == k) then ((t.sharedLost k true).withdrawNow k).answer 0x0303 r .done
      else t.answer 0x0303 r (.bad .keyAbsent .none)) := by
  change execPulpWithdraw r s = _
  rw [execPulpWithdraw, State.mbRun_eq_of_mbTakes h]
  simp only [Bool.not_eq_true', ← Bool.not_eq_true, ite_not, State.answer_ite]

/-! ## The background rebuild (R213) -/

theorem exec_sharedPoolRebuild_eq {w : RebuildIn} {x : Shared} (hx : s.pulp.shared[w.slot]? = some x) :
    let b := s.sharedBuild x (s.sharedAttr x.handle) w.region
    exec (.sharedPoolRebuild w) s = .next (
      if s.up && s.pwr.state == 0 && s.mp.running && s.vlt.unsealed && s.isShared x.handle && s.sharedStale x w.region
          && s.idlePip w.region then
        (b.1.setPulp { b.1.pulp with shared := b.1.pulp.shared.set w.slot b.2 }).setShare 0
          ((b.1.fn 0).share.credit (-(Int.ofNat (max 1 w.ticks))))
      else s) := by
  intro b
  change execSharedPoolRebuild w s = _
  simp only [execSharedPoolRebuild, hx, b]

/-! ## O35 -/

/-- Settles O35: each row by its equation, with the clause's condition put into the row's test; the published entry by what
`sharedBuild` keeps of a key, and the pool after a withdrawal by `sharedLost` of a key that leaves. -/
theorem pulpIsSizedAndShared : Obligations.PulpIsSizedAndShared := by
  intro s r t h ranged u sumsFit keysFit
  refine ⟨fun htakes => ?size, fun htakes hw a len hkey => ?publish, fun htakes => ?withdraw,
    fun slot region ticks x hx => ?rebuild⟩
  case size =>
    have heq := exec_pulpSize_eq htakes
    exact ⟨fun hr hs hk => by rw [heq, if_pos hr, if_pos hs, if_pos hk], fun hr => by rw [heq, if_neg hr],
      fun hr hs => by rw [heq, if_pos hr, if_neg hs], fun hr hs hk => by rw [heq, if_pos hr, if_pos hs, if_neg hk]⟩
  case publish =>
    intro onChip room x v
    refine ⟨fun hshared hpublic hnew hchip hfits => ⟨?_, ?_⟩, fun hbad => exec_pulpPublish_usage htakes hw hkey hbad,
      fun hshared hpublic hnew hchip hfull => ?_⟩
    · rw [exec_pulpPublish_room htakes hw hkey hshared hpublic hnew hchip, if_neg (Nat.not_lt.mpr hfits)]
    · obtain ⟨o, ho⟩ := State.sharedBuild_with_entry (s := t) x a 0
      refine ⟨_, rfl, ?_, ?_, ?_, fun hhbm => State.sharedBuild_hbm (x := x) hhbm a 0⟩ <;> rw [ho]
    · rw [exec_pulpPublish_room htakes hw hkey hshared hpublic hnew hchip, if_pos hfull]
  case withdraw =>
    refine ⟨fun hin => ⟨?_, ?_, ?_⟩, fun hout => ?_⟩
    · rw [exec_pulpWithdraw_eq htakes, if_pos hin]
    · rw [State.sharedLost_deleted hin, State.setPulp_pulp]
    · rw [State.sharedLost_deleted hin, State.setPulp_pulp]
    · rw [exec_pulpWithdraw_eq htakes, if_neg (Bool.eq_false_iff.mp hout)]
  case rebuild =>
    intro free b
    have heq := exec_sharedPoolRebuild_eq (w := ⟨slot, region, ticks⟩) hx
    exact ⟨fun hfree => by rw [heq, if_pos hfree], fun hbusy => by rw [heq, if_neg (Bool.eq_false_iff.mp hbusy)]⟩

end Sys2Proof.Machine
end

section
/-! SUPPORT. Key information, exports, statements and certificates (R297, R307, R308, R477): what the four commands that read the
vault answer, and that they leave its slots alone. -/

namespace Sys2Proof.Machine

variable {s t u : State} {r : MbReq} {a c : QWord} {n : Nat}

/-! ## Answers that leave the vault alone -/

@[simp] theorem State.sendMsix_vlt (f v : Nat) : (s.sendMsix f v).vlt = s.vlt := by
  unfold State.sendMsix
  extract_lets r e
  split
  · rfl
  · split <;> rfl

@[simp] theorem State.badAccess_vlt (f : Nat) : (s.badAccess f).vlt = s.vlt := by
  unfold State.badAccess State.fnEvent
  extract_lets r p s1
  split
  · rfl
  · split
    · exact State.sendMsix_vlt ..
    · rfl

@[simp] theorem State.mbRespond_vlt (f cmd : Nat) (token : Word) (st : Status) (why : Reason) (flags : Nat) (bs : List Byte) :
    (s.mbRespond f cmd token st why flags bs).vlt = s.vlt := by
  unfold State.mbRespond
  extract_lets m s1 s2
  split
  · exact State.sendMsix_vlt ..
  · rfl

@[simp] theorem State.dmaOut_vlt (f : Nat) (addr : QWord) (bs : List Byte) : (s.dmaOut f addr bs).vlt = s.vlt := by
  unfold State.dmaOut
  split <;> rfl

/-- Only a failed read raises a fault with its answer; a command that changes no state leaves no ADMIN record (R413). -/
theorem State.answer_vlt {code : Nat} {x : Reply} (hcode : changes code = false) (hx : x ≠ .readFail) :
    (s.answer code r x).vlt = s.vlt := by
  cases x with
  | ok flags bs => simp [State.answer, State.adminRecord, hcode]
  | readFail => exact absurd rfl hx
  | later => rfl
  | bad st why => exact State.mbRespond_vlt ..
  | detail d => exact State.mbRespond_vlt ..
  | faultWord d => exact State.mbRespond_vlt ..

/-! ## Commands that leave the vault alone -/

/-- A command that ends in `p` has left the vault alone, and no DMA read of it failed. -/
structure State.ReadsOut (s : State) (p : State × Reply) : Prop where
  vault : p.1.vlt = s.vlt
  reply : p.2 ≠ .readFail

theorem State.ReadsOut.ok {flags : Nat} {bs : List Byte} (h : t.vlt = s.vlt) : s.ReadsOut (t, .ok flags bs) := ⟨h, nofun⟩

theorem State.ReadsOut.bad {st : Status} {why : Reason} : s.ReadsOut (s, .bad st why) := ⟨rfl, nofun⟩

theorem State.ReadsOut.ite {b : Prop} [Decidable b] {p q : State × Reply} (hp : s.ReadsOut p) (hq : s.ReadsOut q) :
    s.ReadsOut (if b then p else q) := by
  split
  · exact hp
  · exact hq

theorem State.atBar_vlt {f : Nat} {k : State → State} (hk : (k s).vlt = s.vlt) : (s.atBar f k).vlt = s.vlt := by
  unfold State.atBar
  split
  · rfl
  · split
    · rfl
    · exact hk

theorem State.mbServe_vlt {code : Nat} {lens : List Nat} {masks : List QWord} {k : State → State × Reply}
    (hcode : changes code = false) (hk : s.ReadsOut (k s)) : (s.mbServe code r lens masks k).vlt = s.vlt := by
  obtain ⟨hvault, hreply⟩ := hk
  unfold State.mbServe
  split
  · exact State.answer_vlt hcode nofun
  · exact (State.answer_vlt hcode hreply).trans hvault

/-- Whether a request is dropped, refused or taken: the vault stays as it was if the command leaves it alone. -/
theorem State.mbRun_vlt {code : Nat} {lens : List Nat} {masks : List QWord} {k : State → State × Reply}
    (hcode : changes code = false) (hk : ∀ t : State, t.ReadsOut (k t)) : (s.mbRun code r lens masks k).vlt = s.vlt := by
  refine State.atBar_vlt ?_
  split
  · rfl
  split
  · exact State.badAccess_vlt ..
  split
  · exact State.mbRespond_vlt ..
  · exact State.mbServe_vlt (s := s.mbGo r.fn.val) hcode (hk _)

theorem State.slot_of_vlt_eq (h : t.vlt = s.vlt) (f i : Nat) : t.slot f i = s.slot f i := by simp [State.slot, h]

/-! ## KEY_INFO (R291, R477) -/

theorem exec_keyInfo_eq (htakes : s.mbTakes 0x0403 r [8] []) :
    let x := s.mbGo r.fn.val
    let h := r.words.getD 0 0
    let k := x.slot r.fn.val (hIndex h)
    let b := x.blob r.fn.val (hIndex h)
    exec (.keyInfo r) s = .next (
      if hTenant h ≠ r.fn.val then x.answer 0x0403 r (.bad .keyTenant .none)
      else if hLoc h = 1 ∧ hIndex h < 1048576 then x.answer 0x0403 r (.words (infoWords b.occ b.attr b.version 0 0))
      else if hLoc h ≠ 0 ∨ (x.fn r.fn.val).ten.slots ≤ hIndex h then x.answer 0x0403 r (.bad .badRange .none)
      else if hIndex h = 0 ∧ k.occ then
        x.answer 0x0403 r (.ok 0 (wordBytes (infoWords true k.attr k.counter k.uses k.limit) ++ freeBytes k.keyAt 1568))
      else x.answer 0x0403 r (.words (infoWords k.occ k.attr k.counter k.uses k.limit))) := by
  have hek : kemEk 2 = 1568 := rfl
  change execKeyInfo r s = _
  rw [execKeyInfo, State.mbRun_eq_of_mbTakes htakes]
  simp only [State.answer_ite, hek]

section
variable (htakes : s.mbTakes 0x0403 r [8] [])
include htakes

theorem exec_keyInfo_otherTenant (hten : hTenant (r.words.getD 0 0) ≠ r.fn.val) :
    exec (.keyInfo r) s = .next ((s.mbGo r.fn.val).answer 0x0403 r (.bad .keyTenant .none)) := by
  rw [exec_keyInfo_eq htakes, if_pos hten]

variable (hten : hTenant (r.words.getD 0 0) = r.fn.val)
include hten

theorem exec_keyInfo_blob (hloc : hLoc (r.words.getD 0 0) = 1) (hidx : hIndex (r.words.getD 0 0) < 1048576) :
    let b := (s.mbGo r.fn.val).blob r.fn.val (hIndex (r.words.getD 0 0))
    exec (.keyInfo r) s = .next ((s.mbGo r.fn.val).answer 0x0403 r (.words (infoWords b.occ b.attr b.version 0 0))) := by
  rw [exec_keyInfo_eq htakes, if_neg (not_not_intro hten), if_pos ⟨hloc, hidx⟩]

theorem exec_keyInfo_range (hloc : hLoc (r.words.getD 0 0) ≠ 1)
    (hbad : hLoc (r.words.getD 0 0) ≠ 0 ∨ ((s.mbGo r.fn.val).fn r.fn.val).ten.slots ≤ hIndex (r.words.getD 0 0)) :
    exec (.keyInfo r) s = .next ((s.mbGo r.fn.val).answer 0x0403 r (.bad .badRange .none)) := by
  rw [exec_keyInfo_eq htakes, if_neg (not_not_intro hten), if_neg (hloc ·.1), if_pos hbad]

/-- A slot of the caller: that of the import key gives its public part too, while it is occupied. -/
theorem exec_keyInfo_slot (hloc : hLoc (r.words.getD 0 0) = 0)
    (hidx : hIndex (r.words.getD 0 0) < ((s.mbGo r.fn.val).fn r.fn.val).ten.slots) :
    let x := s.mbGo r.fn.val
    let k := x.slot r.fn.val (hIndex (r.words.getD 0 0))
    exec (.keyInfo r) s = .next (
      if hIndex (r.words.getD 0 0) = 0 ∧ k.occ then
        x.answer 0x0403 r (.ok 0 (wordBytes (infoWords true k.attr k.counter k.uses k.limit) ++ freeBytes k.keyAt 1568))
      else x.answer 0x0403 r (.words (infoWords k.occ k.attr k.counter k.uses k.limit))) := by
  rw [exec_keyInfo_eq htakes, if_neg (not_not_intro hten), if_neg (by omega), if_neg (by omega)]

end

theorem exec_keyInfo_vlt (h : exec (.keyInfo r) s = .next u) : u.vlt = s.vlt := by
  obtain rfl := Host.Outcome.next.inj h
  exact State.mbRun_vlt rfl fun t => .ite .bad (.ite (.ok rfl) (.ite .bad (.ite (.ok rfl) (.ok rfl))))

/-! ## KEY_EXPORT (R297) -/

section
variable (htakes : s.mbTakes 0x0404 r [32] [])
include htakes

theorem exec_keyExport_otherTenant (hten : hTenant (r.words.getD 0 0) ≠ r.fn.val) :
    exec (.keyExport r) s = .next ((s.mbGo r.fn.val).answer 0x0404 r (.bad .keyTenant .none)) := by
  change execKeyExport r s = _
  rw [execKeyExport, State.mbRun_eq_of_mbTakes htakes]
  simp only [if_pos hten]

variable (hten : hTenant (r.words.getD 0 0) = r.fn.val)
include hten

theorem exec_keyExport_absent (hkey : (s.mbGo r.fn.val).heldKey (r.words.getD 0 0) = none) :
    exec (.keyExport r) s = .next ((s.mbGo r.fn.val).answer 0x0404 r (.bad .keyAbsent .none)) := by
  change execKeyExport r s = _
  rw [execKeyExport, State.mbRun_eq_of_mbTakes htakes]
  simp only [if_neg (not_not_intro hten), hkey]

variable {p : QWord} (hkey : (s.mbGo r.fn.val).heldKey (r.words.getD 0 0) = some (a, p, n, c))
include hkey

theorem exec_keyExport_usage (hexp : aExportable a = false) :
    exec (.keyExport r) s = .next ((s.mbGo r.fn.val).answer 0x0404 r (.bad .keyUsage .none)) := by
  change execKeyExport r s = _
  rw [execKeyExport, State.mbRun_eq_of_mbTakes htakes]
  simp only [if_neg (not_not_intro hten), hkey, hexp, Bool.not_false, if_true]

variable (hexp : aExportable a = true)
include hexp

theorem exec_keyExport_wrapBad {st : Status} {why : Reason}
    (hwrap : (s.mbGo r.fn.val).wrapBad r.fn.val (r.words.getD 1 0) = some (st, why)) :
    exec (.keyExport r) s = .next ((s.mbGo r.fn.val).answer 0x0404 r (.bad st why)) := by
  change execKeyExport r s = _
  rw [execKeyExport, State.mbRun_eq_of_mbTakes htakes]
  simp only [if_neg (not_not_intro hten), hkey, hexp, hwrap, Bool.not_true, Bool.false_eq_true, if_false]

/-- An exportable key, a good wrapping key and an aligned address: the capacity decides, and then the vault. -/
theorem exec_keyExport_eq (hwrap : (s.mbGo r.fn.val).wrapBad r.fn.val (r.words.getD 1 0) = none) (halign : r.w 2 % 64 = 0) :
    let x := s.mbGo r.fn.val
    let h := r.words.getD 0 0
    let kek := hIndex (r.words.getD 1 0)
    exec (.keyExport r) s = .next (
      if r.w 3 < blobBytes n then x.answer 0x0404 r (.bad .badLength .outShort)
      else if x.commits = false then x.answer 0x0404 r (.bad .deviceFault .none)
      else (x.dmaOut r.fn.val (r.words.getD 2 0) (blobOf r.fn.val kek n a (x.slot r.fn.val kek).secAt (x.keyPlace h a))).answer
        0x0404 r (.words [BitVec.ofNat 64 (blobBytes n)])) := by
  change execKeyExport r s = _
  rw [execKeyExport, State.mbRun_eq_of_mbTakes htakes]
  simp only [if_neg (not_not_intro hten), hkey, hexp, hwrap, if_neg (not_not_intro halign), Bool.not_true, Bool.false_eq_true,
    if_false, Bool.not_eq_true', State.answer_ite, State.wrapped]

end

theorem exec_keyExport_vlt (h : exec (.keyExport r) s = .next u) : u.vlt = s.vlt := by
  obtain rfl := Host.Outcome.next.inj h
  refine State.mbRun_vlt rfl fun t => .ite .bad ?_
  split
  · exact .bad
  refine .ite .bad ?_
  split
  · exact .bad
  · exact .ite .bad (.ite .bad (.ite .bad (.ok (State.dmaOut_vlt ..))))

/-! ## KEY_STATEMENT (R308) -/

theorem leBytes_take {m : Nat} (hm : m ≤ n) (v : Nat) : (leBytes n v).take m = leBytes m v := by
  induction m generalizing n v with
  | zero => rfl
  | succ m ih =>
    obtain ⟨n, rfl⟩ : ∃ k, n = k + 1 := ⟨n - 1, by omega⟩
    simp [leBytes, ih (Nat.le_of_succ_le_succ hm)]

/-- The digest of the public key, or zeros for a symmetric key, has 48 bytes. -/
theorem State.statementBody_length (h a c : QWord) (nonce : Nat) : (s.statementBody h a c nonce).length = 128 := by
  unfold State.statementBody
  split <;> simp

/-- The body begins with the life-cycle state and the key it is about; the counter stands at byte 20 (R308). -/
theorem State.statementBody_take (h a c : QWord) (nonce : Nat) :
    (s.statementBody h a c nonce).take 24 = leBytes 1 1 ++ leBytes 1 s.lcState ++ leBytes 2 (hTenant h) ++ leBytes 8 h.toNat
      ++ leBytes 8 a.toNat ++ leBytes 4 c.toNat := by
  simp [State.statementBody, List.take_append, leBytes_take, List.take_of_length_le]

section
variable (htakes : s.mbTakes 0x0406 r [40] [])
include htakes

theorem exec_keyStatement_otherTenant (hten : hTenant (r.words.getD 0 0) ≠ r.fn.val) (hvf : r.fn.val ≠ 0) :
    exec (.keyStatement r) s = .next ((s.mbGo r.fn.val).answer 0x0406 r (.bad .keyTenant .none)) := by
  change execKeyStatement r s = _
  rw [execKeyStatement, State.mbRun_eq_of_mbTakes htakes]
  simp only [if_pos (And.intro hten hvf)]

/-- A key that the caller may name: the capacity decides, and then the vault. -/
theorem exec_keyStatement_eq (hten : hTenant (r.words.getD 0 0) = r.fn.val ∨ r.fn.val = 0) {p : QWord}
    (hkey : (s.mbGo r.fn.val).heldKey (r.words.getD 0 0) = some (a, p, n, c)) :
    let x := s.mbGo r.fn.val
    exec (.keyStatement r) s = .next (
      if r.w 4 < 4851 then x.answer 0x0406 r (.bad .badLength .outShort)
      else if x.vlt.aliasKeys = false ∨ x.commits = false then x.answer 0x0406 r (.bad .deviceFault .none)
      else ((x.dmaOut r.fn.val (r.words.getD 3 0)
          (x.statementBody (r.words.getD 0 0) a c (r.w 1 + 2 ^ 64 * r.w 2) ++ freeBytes x.free 4723)).draw 4723).answer
        0x0406 r (.words [4851])) := by
  change execKeyStatement r s = _
  rw [execKeyStatement, State.mbRun_eq_of_mbTakes htakes]
  simp only [if_neg (fun h : _ ∧ _ => hten.elim h.1 h.2), hkey, Bool.or_eq_true, Bool.not_eq_true', State.answer_ite]

end

theorem exec_keyStatement_vlt (h : exec (.keyStatement r) s = .next u) : u.vlt = s.vlt := by
  obtain rfl := Host.Outcome.next.inj h
  refine State.mbRun_vlt rfl fun t => .ite .bad ?_
  split
  · exact .bad
  · exact .ite .bad (.ite .bad (.ok (State.dmaOut_vlt ..)))

/-! ## CERT_READ (R307) -/

theorem exec_certRead_eq (htakes : s.mbTakes 0x0407 r [24] []) :
    let x := s.mbGo r.fn.val
    exec (.certRead r) s = .next (
      if r.w 0 ≤ 1 ∧ r.w 1 % 8 = 0 ∧ r.w 1 ≤ 65536 ∧ r.w 2 % 8 = 0 ∧ 8 ≤ r.w 2 ∧ r.w 2 ≤ 3776 then
        x.answer 0x0407 r (.ok 0 (x.certBytes (r.w 0) (r.w 1) (r.w 2)))
      else x.answer 0x0407 r (.bad .badRange .none)) := by
  change execCertRead r s = _
  rw [execCertRead, State.mbRun_eq_of_mbTakes htakes]
  simp only [within, Bool.not_eq_true', ← Bool.not_eq_true, Bool.and_eq_true, decide_eq_true_eq, ← Nat.not_le, ne_eq,
    ← Classical.not_and_iff_not_or_not, ite_not, State.answer_ite]

theorem exec_certRead_vlt (h : exec (.certRead r) s = .next u) : u.vlt = s.vlt := by
  obtain rfl := Host.Outcome.next.inj h
  exact State.mbRun_vlt rfl fun t => .ite .bad (.ok rfl)

/-! ## O37 -/

/-- None of the four commands changes a slot. -/
theorem readOut_vlt {i : Instr} (hi : i ∈ [Instr.keyInfo r, .keyExport r, .keyStatement r, .certRead r])
    (h : exec i s = .next u) : u.vlt = s.vlt := by
  simp only [List.mem_cons, List.not_mem_nil, or_false] at hi
  obtain rfl | rfl | rfl | rfl := hi
  · exact exec_keyInfo_vlt h
  · exact exec_keyExport_vlt h
  · exact exec_keyStatement_vlt h
  · exact exec_certRead_vlt h

/-- Settles O37: each command by its equations, with the condition of the clause put into the command's test; the slots by what the
four commands leave of the vault. -/
theorem keysAreReadOut : Obligations.KeysAreReadOut := by
  intro s r fn x h k b
  refine ⟨fun htakes => ?info, fun htakes => ?blobOut, fun htakes => ?statement, fun htakes => ?cert,
    fun i hi u hu g n => State.slot_of_vlt_eq (readOut_vlt hi hu) g n⟩
  case info =>
    refine ⟨fun hten => exec_keyInfo_otherTenant htakes hten, fun hten => ⟨fun hloc hidx hkey => ?_,
      fun hloc hzero hslots hocc => ?_, fun hloc hidx => exec_keyInfo_blob htakes hten hloc hidx, fun hbad => ?_⟩⟩
    · have hplain : ¬(hIndex h = 0 ∧ k.occ = true) := fun himp => hkey.elim (· himp.1) (Bool.eq_false_iff.mp · himp.2)
      exact (exec_keyInfo_slot htakes hten hloc hidx).trans (congrArg _ (if_neg hplain))
    · have hidx : hIndex h < (x.fn fn).ten.slots := Nat.lt_of_le_of_lt (Nat.le_of_eq hzero) hslots
      exact (exec_keyInfo_slot htakes hten hloc hidx).trans (congrArg _ (if_pos ⟨hzero, hocc⟩))
    · refine exec_keyInfo_range htakes hten ?_ ?_
      · exact fun hloc : hLoc h = 1 => by omega
      · exact hbad.symm.imp (fun hloc : 2 ≤ hLoc h => (by omega : hLoc h ≠ 0)) And.right
  case blobOut =>
    refine ⟨fun hten => exec_keyExport_otherTenant htakes hten, fun hten hkey => exec_keyExport_absent htakes hten hkey,
      fun hten a p n c hkey => ⟨fun hexp => exec_keyExport_usage htakes hten hkey hexp, fun hexp hwrap halign => ?_,
        fun hexp st why hwrap => exec_keyExport_wrapBad htakes hten hkey hexp hwrap⟩⟩
    have heq := exec_keyExport_eq htakes hten hkey hexp hwrap halign
    refine ⟨fun hcap hcommits => ?_, fun hcap => by rw [heq, if_pos hcap]⟩
    rw [heq, if_neg (Nat.not_lt.mpr hcap), if_neg (Bool.not_eq_false _ ▸ hcommits)]
  case statement =>
    refine ⟨fun hten hvf => exec_keyStatement_otherTenant htakes hten hvf, fun hten a p n c hkey => ?_⟩
    have heq := exec_keyStatement_eq htakes hten hkey
    refine ⟨fun hcap halias hcommits => ?_, fun hcap => by rw [heq, if_pos hcap]⟩
    refine ⟨x.statementBody h a c (r.w 1 + 2 ^ 64 * r.w 2) ++ freeBytes x.free 4723, ?_, ?_, ?_⟩
    · rw [List.length_append, State.statementBody_length, freeBytes_length]
    · rw [heq, if_neg (Nat.not_lt.mpr hcap), if_neg (by simp [halias, hcommits, x, fn])]
    · rw [List.take_append_of_le_length (by rw [State.statementBody_length]; decide)]
      exact State.statementBody_take ..
  case cert =>
    intro good
    have heq := exec_certRead_eq htakes
    exact ⟨fun hgood => by rw [heq, if_pos hgood], fun hbad => by rw [heq, if_neg hbad]⟩

end Sys2Proof.Machine
end

section
/-! SUPPORT. The central entropy service: tests of the sources (R315 to R317), the pool of conditioned blocks (R318), reseeds (R320,
R321) and recovery (R322, R323). -/

namespace Sys2Proof.Machine

variable {s : State}

/-! ## A failed test (R316, R317) -/

/-- What every listed value and the unlisted one have in common, each read has. -/
theorem Tab.get_of_forall {α : Type} {d : α} {P : α → Prop} {t : Tab α} (hd : P d) (ht : ∀ e ∈ t, P e.2) (a : Nat) :
    P (Tab.get d t a) := by
  induction t with
  | nil => exact hd
  | cons e t ih =>
    obtain ⟨hv, ht⟩ := List.forall_mem_cons.mp ht
    simp only [Tab.get]
    split
    · exact hv
    · exact ih ht

theorem Tab.get_tabMap_of_forall {α : Type} [DecidableEq α] {d : α} {P : α → Prop} {f : α → α} (hd : P d) (hf : ∀ x, P (f x))
    (t : Tab α) (a : Nat) : P (Tab.get d (tabMap d f t) a) := by
  refine Tab.get_of_forall hd (fun e he => ?_) a
  obtain ⟨hmap, -⟩ := List.mem_filter.mp he
  obtain ⟨x, -, rfl⟩ := List.mem_map.mp hmap
  exact hf x.2

@[simp] theorem State.buf_flushBuffers (f : Nat) : (s.flushBuffers.fn f).rngw.buf = [] :=
  Tab.get_tabMap_of_forall (d := ({} : FnRec)) (P := fun r : FnRec => r.rngw.buf = [])
    (f := fun r => { r with rngw := { r.rngw with buf := [] } }) rfl (fun _ => rfl) s.fns f

/-- Source `i` becomes `y`, and the DRBG is marked failed, with the pool and the RNG buffers empty (R316). -/
def State.sourceFailed (s : State) (i : Nat) (y : Src) : State :=
  ({ s with rng := { s.rng with drbgFailed := true, pool := 0, demand := false, srcs := s.rng.srcs.set i y } }).flushBuffers

theorem exec_healthTestFail_eq (src test : Fin 3) :
    let x := s.rng.srcs.getD src.val {}
    let y := x.failed_ test.val
    exec (.healthTestFail src test) s = .next (
      if s.rngRuns && x.canFail test.val then
        let a := ((s.sourceFailed src.val y).logWord 0x050 (src.val + test.val * 256 + y.runs * 65536) 0).raise 20 src.val test.val
        (if y.dead then a.raise 21 src.val 0 else a).holdForEntropy.refresh
      else s) := rfl

theorem exec_sourceStartupPass_eq (src : Fin 3) :
    let x := s.rng.srcs.getD src.val {}
    exec (.sourceStartupPass src) s = .next (
      if s.rngRuns && x.startup then s.setSource src.val { x with ok := true, failed := false, startup := false, runs := 0 }
      else s) := rfl

theorem Src.dead_failed_ (x : Src) (test : Nat) : (x.failed_ test).dead = true ↔ 8 ≤ (x.failed_ test).runs := decide_eq_true_iff

theorem Src.startup_failed_ (x : Src) (test : Nat) : (x.failed_ test).startup = !(x.failed_ test).dead :=
  (decide_eq_decide.mpr Nat.not_le.symm).trans decide_not

/-! ## Reseeds (R318, R320, R321) -/

@[simp] theorem State.reseedGen_rng (medlar : Bool) (n : Nat) : (s.reseedGen medlar n).rng = s.rng := by
  rw [State.reseedGen_eq]
  rfl

/-- Serving the generators leaves the central service as it is (R134, R322). -/
@[simp] theorem State.servePending_rng : s.servePending.rng = s.rng := by
  refine List.foldlRecOn (motive := fun t : State => t.rng = s.rng) _ _ rfl fun t ht k _ => ?_
  split
  · exact (State.reseedGen_rng _ _).trans ht
  · exact ht

theorem State.reseeded_rng : s.reseeded.rng = { s.rng with
    pool := s.rng.pool - 1, demand := false, last := s.now, reseeds := s.rng.reseeds + 1 } := State.servePending_rng

theorem State.mustReseed_of_pool (h : 0 < s.rng.pool) : s.mustReseed = s.reseeded := if_pos h

theorem State.mustReseed_of_empty (h : s.rng.pool = 0) : s.mustReseed = { s with rng := { s.rng with demand := true } } :=
  if_neg (Nat.not_lt.mpr (Nat.le_of_eq h))

theorem exec_conditionedBlockReady_eq : exec .conditionedBlockReady s = .next (
    if s.rngRuns && s.rng.srcs.all (·.ok) && !s.rng.rawEn && decide (s.rng.pool < 4) then
      let t := { s with rng := { s.rng with pool := s.rng.pool + 1 } }
      if s.drbgLive && s.rng.demand then t.reseeded else t
    else s) := rfl

theorem exec_drbgRequestLimit_eq : exec .drbgRequestLimit s = .next (if s.drbgLive then s.mustReseed else s) := rfl

theorem exec_drbgReseedInterval_eq : exec .drbgReseedInterval s = .next (
    if s.drbgLive && decide (s.rng.last + 100 ≤ s.now) then s.mustReseed else s) := rfl

theorem State.onBar4_of_bar4Writes {k : State → State} (h : s.bar4Writes = true) : s.onBar4 k = k s := by
  simp only [State.bar4Writes, Bool.and_eq_true, Bool.not_eq_true'] at h
  obtain ⟨⟨⟨hreach, hmse⟩, halarm⟩, hscrap⟩ := h
  exact State.onBar4_apply hreach hmse halarm hscrap

theorem exec_rngCtrlReseed_eq (h : s.bar4Writes = true) (v : Word) : exec (.rngCtrlReseed v) s = .next (
    if !s.mp.loader && v.getLsbD 0 && s.drbgLive && !s.rng.demand then s.mustReseed else s) :=
  congrArg Host.Outcome.next (State.onBar4_of_bar4Writes h)

/-- A reseed is due: after 2^20 requests, 100 µs after the last, or by RNG_CTRL.RESEED with none waiting (R320, R327). -/
def State.reseedDue (s : State) (c : Instr) : Prop :=
  c = .drbgRequestLimit ∨ (c = .drbgReseedInterval ∧ s.rng.last + 100 ≤ s.now)
    ∨ ∃ v : Word, c = .rngCtrlReseed v ∧ v.getLsbD 0 = true ∧ s.bar4Full = true ∧ s.rng.demand = false

/-- The three reasons for a reseed have one effect on a DRBG that serves. -/
theorem exec_reseedDue (hlive : s.drbgLive = true) {c : Instr} (hc : s.reseedDue c) : exec c s = .next s.mustReseed := by
  obtain rfl | ⟨rfl, hlast⟩ | ⟨v, rfl, hv, hbar, hdemand⟩ := hc
  · rw [exec_drbgRequestLimit_eq, if_pos hlive]
  · rw [exec_drbgReseedInterval_eq, if_pos (by simp only [hlive, hlast, decide_true, Bool.and_self])]
  · simp only [State.bar4Full, Bool.and_eq_true] at hbar
    obtain ⟨hwrites, hload⟩ := hbar
    rw [exec_rngCtrlReseed_eq hwrites, if_pos (by simp only [hload, hv, hlive, hdemand, Bool.and_self, Bool.not_false])]

/-! ## Recovery (R316, R322, R323) -/

/-- The generators below `n` have been seeded now, which no count of reseeds shows; the central service and time stand. -/
structure State.SeededBelow (s : State) (n : Nat) (t : State) : Prop where
  rng : t.rng = s.rng
  now : t.now = s.now
  reseeds : ∀ k, (t.gen k).reseeds = (s.gen k).reseeds
  seeded : ∀ k, k < n → (t.gen k).seeded = true ∧ (t.gen k).pastLimit = false ∧ (t.gen k).last = s.now

theorem State.seedGen_gen (n : Nat) : (s.seedGen n false).gen n = { s.gen n with
    seeded := true, pastLimit := false, failing := false, pending := false, seed := s.free, blocks := 0, since := s.now
    last := s.now } := State.gen_setGen_self _ _

theorem State.SeededBelow.seedGen {n : Nat} {t : State} (h : s.SeededBelow n t) : s.SeededBelow (n + 1) (t.seedGen n false) where
  rng := h.rng
  now := h.now
  reseeds k := by
    by_cases hk : k = n
    · rw [hk, State.seedGen_gen]
      exact h.reseeds n
    · rw [State.gen_seedGen_other hk]
      exact h.reseeds k
  seeded k hlt := by
    by_cases hk : k = n
    · rw [hk, State.seedGen_gen]
      exact ⟨rfl, rfl, h.now⟩
    · rw [State.gen_seedGen_other hk]
      exact h.seeded k (by omega)

theorem State.seededBelow_foldl (n : Nat) : s.SeededBelow n ((List.range n).foldl (fun a k => a.seedGen k false) s) := by
  induction n with
  | zero => exact ⟨rfl, rfl, fun _ => rfl, fun _ h => absurd h (Nat.not_lt_zero _)⟩
  | succ n ih =>
    rw [List.range_succ, List.foldl_append]
    exact ih.seedGen

theorem State.seededBelow_seedAll : s.SeededBelow 32 s.seedAll := State.seededBelow_foldl 32

theorem exec_drbgRecovery_eq : exec .drbgRecovery s = .next (
    if s.rngRuns && s.rng.srcs.all (·.ok) && decide (0 < s.rng.pool) && !s.rng.rawEn then
      if s.rng.ready then
        if s.rng.drbgFailed then ({ s with rng := { s.rng with drbgFailed := false } }).reseeded.lateKeys.refresh else s
      else
        (({ s with rng := { s.rng with
            ready := true, drbgFailed := false, pool := s.rng.pool - 1, demand := false, last := s.now
            perso := s.nv.perso } }).seedAll).lateKeys.refresh
    else s) := by
  change execDrbgRecovery s = _
  simp only [execDrbgRecovery, Bool.not_eq_true', ← Bool.not_eq_true, ite_not]

/-! ## O51 -/

/-- Settles O51: every row by its equation, with the condition of the clause put into the row's test; the three reasons for a reseed
by their one effect, and the generators of a recovery by seeding them in order. -/
theorem entropyIsTestedAndReseeded : Obligations.EntropyIsTestedAndReseeded := by
  intro s
  refine ⟨fun src test => ?source, fun x test => ?counts, ?block, fun hlive c hc => ?reseed, fun hdead => ?noLimit,
    fun h => ?noInterval, fun v hwrites h => ?noWrite, ?recovery⟩
  case source =>
    intro x y
    refine ⟨fun h => ⟨s.sourceFailed src.val y, ?_, rfl, rfl, fun f => State.buf_flushBuffers f⟩, fun h => ?_, fun h => ?_,
      fun h => ?_⟩
    · exact (exec_healthTestFail_eq src test).trans (congrArg _ (if_pos h))
    · exact (exec_healthTestFail_eq src test).trans (congrArg _ (if_neg (Bool.eq_false_iff.mp h)))
    · exact (exec_sourceStartupPass_eq src).trans (congrArg _ (if_pos h))
    · exact (exec_sourceStartupPass_eq src).trans (congrArg _ (if_neg (Bool.eq_false_iff.mp h)))
  case counts => exact ⟨rfl, rfl, rfl, rfl, x.dead_failed_ test, x.startup_failed_ test⟩
  case block =>
    intro block t
    refine ⟨fun h => ?_, fun h => ?_⟩
    · exact exec_conditionedBlockReady_eq.trans (congrArg _ (if_pos h))
    · exact exec_conditionedBlockReady_eq.trans (congrArg _ (if_neg (Bool.eq_false_iff.mp h)))
  case reseed =>
    have heq : exec c s = .next s.mustReseed := exec_reseedDue hlive hc
    exact ⟨fun hpool => ⟨by rw [heq, State.mustReseed_of_pool hpool], State.reseeded_rng⟩,
      fun hempty => by rw [heq, State.mustReseed_of_empty hempty]⟩
  case noLimit => rw [exec_drbgRequestLimit_eq, if_neg (Bool.eq_false_iff.mp hdead)]
  case noInterval =>
    rw [exec_drbgReseedInterval_eq, if_neg]
    rw [Bool.and_eq_true, decide_eq_true_eq]
    rintro ⟨hlive, hlast⟩
    rcases h with hdead | hearly
    · exact Bool.false_ne_true (hdead.symm.trans hlive)
    · exact Nat.not_lt.mpr hlast hearly
  case noWrite =>
    rw [exec_rngCtrlReseed_eq hwrites, if_neg]
    simp only [Bool.and_eq_true, Bool.not_eq_true']
    rintro ⟨⟨⟨-, hv⟩, hlive⟩, hdemand⟩
    rcases h with hclear | hdead | hwaits
    · exact Bool.false_ne_true (hclear.symm.trans hv)
    · exact Bool.false_ne_true (hdead.symm.trans hlive)
    · exact Bool.false_ne_true (hdemand.symm.trans hwaits)
  case recovery =>
    intro ready
    refine ⟨fun h hready hfailed => ?_, fun h hready => ?_, fun h => ?_⟩
    · rw [exec_drbgRecovery_eq, if_pos h, if_pos hready, if_pos hfailed]
    · obtain ⟨hrng, -, hreseeds, hseeded⟩ := State.seededBelow_seedAll (s := { s with rng := { s.rng with
        ready := true, drbgFailed := false, pool := s.rng.pool - 1, demand := false, last := s.now, perso := s.nv.perso } })
      refine ⟨_, ?_, hrng, fun k hk => ?_⟩
      · rw [exec_drbgRecovery_eq, if_pos h, if_neg (Bool.eq_false_iff.mp hready)]
      · obtain ⟨hs, hlimit, hlast⟩ := hseeded k hk
        exact ⟨hs, hlimit, hlast, hreseeds k⟩
    · rw [exec_drbgRecovery_eq]
      rcases h with hnot | ⟨hready, hfine⟩
      · rw [if_neg (Bool.eq_false_iff.mp hnot)]
      · rw [if_pos hready, if_neg (Bool.eq_false_iff.mp hfine), ite_self]

end Sys2Proof.Machine
end
